-- ==== Sys2Proof/Word.lean ====
section
/-! DEFINITION. The bit vectors of I2CM: what the spec gives a width (00_scope R6, R7). Bit 0 is the least significant
bit everywhere and every quantity is unsigned. -/
namespace Sys2Proof

/-- A byte: a bus data item, a status code, a return code, a count (`DATA_W`, `STATUS_W`, `RC_W`, `CNT_W` of R6). -/
abbrev Byte := BitVec 8

/-- A 16-bit quantity: a register selector or the timeout threshold (`SEL_W`, `TO_W` of R6). -/
abbrev Half := BitVec 16

/-- The millisecond clock (`NOW_W` of R6). -/
abbrev Millis := BitVec 32

/-- A 7-bit slave address (`ADDR_W` of R6). -/
abbrev SlaveAddr := BitVec 7

/-- A value of the control register, `{CF, STO, STA, EA, EN}` from bit 4 down to bit 0 (R30, R94). -/
abbrev Ctrl := BitVec 5

end Sys2Proof
end

