-- ==== Sys2Proof/Config.lean ====
section
/-! DEFINITION. What an implementation fixes, and the free values. The parameters (00_scope R6, 30_encoding R100) are
plain data that State carries unchanged (log entry 4), so a statement about every state speaks about every choice of
them. The free byte (log entry 6) is a constant with no body: nothing can be proved about its value. -/
namespace Sys2Proof

/-- The parameters of I2CM: the capacity of the ReceiveBuffer, the eleven named status codes, and the status a
line-level bus error is reported with (R216; log entry 15). -/
structure Params where
  rxcap : Nat
  stStart : Byte
  stRepStart : Byte
  stMtSlaAck : Byte
  stMtSlaNack : Byte
  stMtDataAck : Byte
  stMtDataNack : Byte
  stLostArb : Byte
  stMrSlaAck : Byte
  stMrSlaNack : Byte
  stMrDataAck : Byte
  stMrDataNack : Byte
  stBusErr : Byte
  deriving DecidableEq, Repr

/-- The eleven named status codes, in the order of R100. -/
def Params.named (p : Params) : List Byte :=
  [p.stStart, p.stRepStart, p.stMtSlaAck, p.stMtSlaNack, p.stMtDataAck, p.stMtDataNack, p.stLostArb, p.stMrSlaAck,
    p.stMrSlaNack, p.stMrDataAck, p.stMrDataNack]

/-- The constraints on the parameters: `1 <= RXCAP <= 255` (R6); the eleven statuses are pairwise distinct and each
lies in 8..255 (R101); the bus-error status is none of the eleven (R216). -/
abbrev Params.Ok (p : Params) : Prop :=
  1 ≤ p.rxcap ∧ p.rxcap ≤ 255 ∧ p.named.Nodup ∧ (∀ s ∈ p.named, 8 ≤ s.toNat) ∧ p.stBusErr ∉ p.named

/-- The defaults the spec gives: `RXCAP = 32` (R6) and the statuses of R100; R216 names 0x00 for a bus error. -/
def Params.default : Params where
  rxcap := 32
  stStart := 0x08
  stRepStart := 0x10
  stMtSlaAck := 0x18
  stMtSlaNack := 0x20
  stMtDataAck := 0x28
  stMtDataNack := 0x30
  stLostArb := 0x38
  stMrSlaAck := 0x40
  stMrSlaNack := 0x48
  stMrDataAck := 0x50
  stMrDataNack := 0x58
  stBusErr := 0x00

/-- The free values: the `n`-th byte the spec leaves unspecified (93_implementation_defined U10; R86 for `SEL[15:8]`).
It has no body, so a statement that mentions it holds whatever it is (log entries 6 and 7). -/
opaque Config.freeByte : Nat → Byte

end Sys2Proof
end

