-- ==== Sys2Proof/Syntax.lean ====
section
/-! DEFINITION. The instructions: one constructor per row of spec/opcode_table.json. The first twenty are the host
commands, one per legal first byte (30_encoding R88, R112); the last seven are the values the engine writes to the
control register (R97). -/
namespace Sys2Proof

/-- An instruction of I2CM with its operands as the packet formats of R86 carry them. -/
inductive Instr where
  /-- `START`: the primitive `start`, a first start (R130). -/
  | start
  /-- `START.R`: the primitive `start`, a repeated start (R130). -/
  | startR
  /-- `SADDR.W a7`: the primitive `sendAddress`, write direction (R133). -/
  | saddrW (a7 : SlaveAddr)
  /-- `SADDR.R a7`: the primitive `sendAddress`, read direction (R133). -/
  | saddrR (a7 : SlaveAddr)
  /-- `SBYTE b`: the primitive `sendByte` (R136). -/
  | sbyte (b : Byte)
  /-- `RBYTE.N`: the primitive `receiveByte` without acknowledge (R139). -/
  | rbyteN
  /-- `RBYTE.A`: the primitive `receiveByte` with acknowledge (R139). -/
  | rbyteA
  /-- `STOP`: the primitive `stop` (R142). -/
  | stop
  /-- `GETD`: read the data register (R183). -/
  | getd
  /-- `WRITE8 sla, sel8, [data]` (R152). -/
  | write8 (sla : SlaveAddr) (sel : Byte) (payload : List Byte)
  /-- `WRITE16 sla, sel16, [data]` (R152). -/
  | write16 (sla : SlaveAddr) (sel : Half) (payload : List Byte)
  /-- `READ sla, cnt`: into the ReceiveBuffer (R158). -/
  | read (sla : SlaveAddr) (cnt : Byte)
  /-- `READ.X sla, cnt`: into the caller's buffer (R158). -/
  | readX (sla : SlaveAddr) (cnt : Byte)
  /-- `RREAD8 sla, sel8, cnt` (R164). -/
  | rread8 (sla : SlaveAddr) (sel : Byte) (cnt : Byte)
  /-- `RREAD16 sla, sel16, cnt` (R164). -/
  | rread16 (sla : SlaveAddr) (sel : Half) (cnt : Byte)
  /-- `RREAD8.X sla, sel8, cnt` (R164). -/
  | rread8X (sla : SlaveAddr) (sel : Byte) (cnt : Byte)
  /-- `RREAD16.X sla, sel16, cnt` (R164). -/
  | rread16X (sla : SlaveAddr) (sel : Half) (cnt : Byte)
  /-- `SETTO ms`: set the timeout threshold (R176). -/
  | setto (ms : Half)
  /-- `AVAIL`: the count of bytes not yet consumed (R178). -/
  | avail
  /-- `RECV`: consume one byte of the ReceiveBuffer (R180). -/
  | recv
  /-- `ARM_START` = `0b10101` (R97). -/
  | armStart
  /-- `ARM_SEND` = `0b10001` (R97). -/
  | armSend
  /-- `ARM_RECV_ACK` = `0b10011` (R97). -/
  | armRecvAck
  /-- `ARM_RECV_NACK` = `0b10001`, the same value as `ARM_SEND` (R97). -/
  | armRecvNack
  /-- `ARM_STOP` = `0b11001` (R97). -/
  | armStop
  /-- `CTRL_DISABLE` = `0b00000` (R97). -/
  | ctrlDisable
  /-- `CTRL_IDLE` = `0b00011` (R97). -/
  | ctrlIdle
  deriving DecidableEq, Repr

end Sys2Proof
end

