-- ==== Sys2Proof/WellFormed.lean ====
section
/-! DEFINITION. Which instructions the encodings can carry. The types of Syntax hold every operand to its width; the
one relation left to check is that a payload's length fits the one-byte `[len]` field (30_encoding R86: 0 to 255). -/
namespace Sys2Proof

/-- The instruction can be written as a packet of R86 or a pattern of R97. -/
def Instr.wf : Instr → Bool
  | .start => true
  | .startR => true
  | .saddrW _ => true
  | .saddrR _ => true
  | .sbyte _ => true
  | .rbyteN => true
  | .rbyteA => true
  | .stop => true
  | .getd => true
  | .write8 _ _ payload => decide (payload.length ≤ 255)
  | .write16 _ _ payload => decide (payload.length ≤ 255)
  | .read _ _ => true
  | .readX _ _ => true
  | .rread8 _ _ _ => true
  | .rread16 _ _ _ => true
  | .rread8X _ _ _ => true
  | .rread16X _ _ _ => true
  | .setto _ => true
  | .avail => true
  | .recv => true
  | .armStart => true
  | .armSend => true
  | .armRecvAck => true
  | .armRecvNack => true
  | .armStop => true
  | .ctrlDisable => true
  | .ctrlIdle => true

/-- A host command, as against a control-register write (R88, R97). -/
def Instr.isCommand : Instr → Bool
  | .armStart => false
  | .armSend => false
  | .armRecvAck => false
  | .armRecvNack => false
  | .armStop => false
  | .ctrlDisable => false
  | .ctrlIdle => false
  | .start => true
  | .startR => true
  | .saddrW _ => true
  | .saddrR _ => true
  | .sbyte _ => true
  | .rbyteN => true
  | .rbyteA => true
  | .stop => true
  | .getd => true
  | .write8 _ _ _ => true
  | .write16 _ _ _ => true
  | .read _ _ => true
  | .readX _ _ => true
  | .rread8 _ _ _ => true
  | .rread16 _ _ _ => true
  | .rread8X _ _ _ => true
  | .rread16X _ _ _ => true
  | .setto _ => true
  | .avail => true
  | .recv => true

end Sys2Proof
end

