-- ==== Sys2Proof/Decode.lean ====
section
/-! DEFINITION. The encodings (30_encoding R85 to R115): the packet decoder over bytes, the decoder of control-register
values, the encoder of both, the assembler's pseudo-instructions (R113), and the reading of an opcode-table word. -/
namespace Sys2Proof

/-- The twenty legal first bytes (R112), named as the opcode table names them. -/
inductive Op where
  | start | startR | saddrW | saddrR | sbyte | rbyteN | rbyteA | stop | getd | write8 | write16 | read | readX
  | rread8 | rread16 | rread8X | rread16X | setto | avail | recv
  deriving DecidableEq, Repr

/-- The opcode byte of each command form (R88). -/
def Op.byte : Op → Byte
  | .start => 0x10
  | .startR => 0x11
  | .saddrW => 0x20
  | .saddrR => 0x21
  | .sbyte => 0x30
  | .rbyteN => 0x40
  | .rbyteA => 0x41
  | .stop => 0x50
  | .getd => 0x60
  | .write8 => 0x80
  | .write16 => 0x81
  | .read => 0x90
  | .readX => 0x92
  | .rread8 => 0xA0
  | .rread16 => 0xA1
  | .rread8X => 0xA2
  | .rread16X => 0xA3
  | .setto => 0xC0
  | .avail => 0xD0
  | .recv => 0xE0

/-- All command forms, in the table's order. -/
def Op.all : List Op :=
  [.start, .startR, .saddrW, .saddrR, .sbyte, .rbyteN, .rbyteA, .stop, .getd, .write8, .write16, .read, .readX,
    .rread8, .rread16, .rread8X, .rread16X, .setto, .avail, .recv]

/-- The form a first byte selects, if it is one of the twenty (R87, R108). -/
def opOf (b : Byte) : Option Op :=
  Op.all.find? fun o => o.byte == b

/-- The match and mask of the first byte of the twelve commands, in the order of R89. -/
def familyRows : List (Byte × Byte) :=
  [(0x10, 0xFE), (0x20, 0xFE), (0x30, 0xFF), (0x40, 0xFE), (0x50, 0xFF), (0x60, 0xFF), (0x80, 0xFE), (0x90, 0xFD),
    (0xA0, 0xFC), (0xC0, 0xFF), (0xD0, 0xFF), (0xE0, 0xFF)]

/-- "A byte `b` selects the command when `b & mask = match`" (R89). -/
def familySelects (row : Byte × Byte) (b : Byte) : Bool :=
  (b &&& row.2) == row.1

/-- Why a packet is illegal (R110). -/
inductive Reject where
  /-- The first byte matches no command (R108). -/
  | reservedOpcode (b : Byte)
  /-- Bit 7 of an address operand is 1 (R109). -/
  | reservedOperandBit (b : Byte)
  deriving DecidableEq, Repr

/-- What the front of the command stream holds (R87): not yet a whole packet, an illegal one, or an instruction and
the bytes after it. -/
inductive Packet where
  | wait
  | reject (r : Reject)
  | ok (i : Instr) (rest : List Byte)
  deriving DecidableEq, Repr

/-- Check the reserved bit of an address operand (R109) and hand on its seven bits. -/
def withSla (a : Byte) (rest : List Byte) (k : SlaveAddr → Instr) : Packet :=
  if a.getLsbD 7 then .reject (.reservedOperandBit a) else .ok (k (a.setWidth 7)) rest

/-- The operands of a packet, by its format (R86). A packet that is not complete waits, whatever its operands; the
reserved bit is checked once it is complete (R87). -/
def decodeOperands : Op → List Byte → Packet
  | .start, rest => .ok .start rest
  | .startR, rest => .ok .startR rest
  | .saddrW, a :: rest => withSla a rest .saddrW
  | .saddrW, [] => .wait
  | .saddrR, a :: rest => withSla a rest .saddrR
  | .saddrR, [] => .wait
  | .sbyte, b :: rest => .ok (.sbyte b) rest
  | .sbyte, [] => .wait
  | .rbyteN, rest => .ok .rbyteN rest
  | .rbyteA, rest => .ok .rbyteA rest
  | .stop, rest => .ok .stop rest
  | .getd, rest => .ok .getd rest
  | .write8, a :: e :: n :: rest =>
    if rest.length < n.toNat then .wait
    else withSla a (rest.drop n.toNat) fun sla => .write8 sla e (rest.take n.toNat)
  | .write8, _ => .wait
  | .write16, a :: eh :: el :: n :: rest =>
    if rest.length < n.toNat then .wait
    else withSla a (rest.drop n.toNat) fun sla => .write16 sla (eh ++ el) (rest.take n.toNat)
  | .write16, _ => .wait
  | .read, a :: c :: rest => withSla a rest fun sla => .read sla c
  | .read, _ => .wait
  | .readX, a :: c :: rest => withSla a rest fun sla => .readX sla c
  | .readX, _ => .wait
  | .rread8, a :: e :: c :: rest => withSla a rest fun sla => .rread8 sla e c
  | .rread8, _ => .wait
  | .rread16, a :: eh :: el :: c :: rest => withSla a rest fun sla => .rread16 sla (eh ++ el) c
  | .rread16, _ => .wait
  | .rread8X, a :: e :: c :: rest => withSla a rest fun sla => .rread8X sla e c
  | .rread8X, _ => .wait
  | .rread16X, a :: eh :: el :: c :: rest => withSla a rest fun sla => .rread16X sla (eh ++ el) c
  | .rread16X, _ => .wait
  | .setto, h :: l :: rest => .ok (.setto (h ++ l)) rest
  | .setto, _ => .wait
  | .avail, rest => .ok .avail rest
  | .recv, rest => .ok .recv rest

/-- The packet at the front of a byte stream (R87). -/
def decodePacket : List Byte → Packet
  | [] => .wait
  | b :: rest =>
    match opOf b with
    | none => .reject (.reservedOpcode b)
    | some o => decodeOperands o rest

/-- The instruction a control-register value stands for (R97). `ARM_SEND` and `ARM_RECV_NACK` are one value: it is a
receive exactly when the bus controller is a master receiver, which `receiving` says. The other 25 values are no
instruction (R98). -/
def decodeCtrl (receiving : Bool) (w : Ctrl) : Option Instr :=
  if w = 0b10101 then some .armStart
  else if w = 0b10001 then some (if receiving then .armRecvNack else .armSend)
  else if w = 0b10011 then some .armRecvAck
  else if w = 0b11001 then some .armStop
  else if w = 0b00000 then some .ctrlDisable
  else if w = 0b00011 then some .ctrlIdle
  else none

/-- A 7-bit address as an operand byte `{0, SLA[6:0]}` (R86). -/
def slaByte (a : SlaveAddr) : Byte := a.setWidth 8

/-- The high byte of a 16-bit operand, carried first (R68, R86). -/
def hiByte (v : Half) : Byte := v.extractLsb' 8 8

/-- The low byte of a 16-bit operand, carried second (R68, R86). -/
def loByte (v : Half) : Byte := v.extractLsb' 0 8

/-- The packet of a host command (R86, R113); a control-register write has none. -/
def encodePacket : Instr → List Byte
  | .start => [0x10]
  | .startR => [0x11]
  | .saddrW a => [0x20, slaByte a]
  | .saddrR a => [0x21, slaByte a]
  | .sbyte b => [0x30, b]
  | .rbyteN => [0x40]
  | .rbyteA => [0x41]
  | .stop => [0x50]
  | .getd => [0x60]
  | .write8 a e d => [0x80, slaByte a, e, BitVec.ofNat 8 d.length] ++ d
  | .write16 a e d => [0x81, slaByte a, hiByte e, loByte e, BitVec.ofNat 8 d.length] ++ d
  | .read a c => [0x90, slaByte a, c]
  | .readX a c => [0x92, slaByte a, c]
  | .rread8 a e c => [0xA0, slaByte a, e, c]
  | .rread16 a e c => [0xA1, slaByte a, hiByte e, loByte e, c]
  | .rread8X a e c => [0xA2, slaByte a, e, c]
  | .rread16X a e c => [0xA3, slaByte a, hiByte e, loByte e, c]
  | .setto ms => [0xC0, hiByte ms, loByte ms]
  | .avail => [0xD0]
  | .recv => [0xE0]
  | .armStart => []
  | .armSend => []
  | .armRecvAck => []
  | .armRecvNack => []
  | .armStop => []
  | .ctrlDisable => []
  | .ctrlIdle => []

/-- The control-register value of a control-register write (R97); a host command has none. -/
def encodeCtrl : Instr → Option Ctrl
  | .armStart => some 0b10101
  | .armSend => some 0b10001
  | .armRecvAck => some 0b10011
  | .armRecvNack => some 0b10001
  | .armStop => some 0b11001
  | .ctrlDisable => some 0b00000
  | .ctrlIdle => some 0b00011
  | .start => none
  | .startR => none
  | .saddrW _ => none
  | .saddrR _ => none
  | .sbyte _ => none
  | .rbyteN => none
  | .rbyteA => none
  | .stop => none
  | .getd => none
  | .write8 _ _ _ => none
  | .write16 _ _ _ => none
  | .read _ _ => none
  | .readX _ _ => none
  | .rread8 _ _ _ => none
  | .rread16 _ _ _ => none
  | .rread8X _ _ _ => none
  | .rread16X _ _ _ => none
  | .setto _ => none
  | .avail => none
  | .recv => none

/-- An instruction as it stands in the hardware: bytes of the command stream, or a value written to `CTRL` (R85). -/
inductive Code where
  | packet (bytes : List Byte)
  | ctrl (w : Ctrl)
  deriving DecidableEq, Repr

/-- The words of an instruction. -/
def encode (i : Instr) : Code :=
  match encodeCtrl i with
  | some w => .ctrl w
  | none => .packet (encodePacket i)

/-- Read an instruction back: a packet must be whole and have nothing after it. `receiving` tells the two meanings of
`0b10001` apart (R97). -/
def decode (receiving : Bool) : Code → Option Instr
  | .packet bs =>
    match decodePacket bs with
    | .ok i [] => some i
    | .ok _ (_ :: _) => none
    | .wait => none
    | .reject _ => none
  | .ctrl w => decodeCtrl receiving w

/-- The length in bytes of a command's packet: 1, 2, 3, 3, 4, 5, `4 + len`, `5 + len` by format (R86). -/
def packetLength : Instr → Nat
  | .start => 1
  | .startR => 1
  | .saddrW _ => 2
  | .saddrR _ => 2
  | .sbyte _ => 2
  | .rbyteN => 1
  | .rbyteA => 1
  | .stop => 1
  | .getd => 1
  | .write8 _ _ d => 4 + d.length
  | .write16 _ _ d => 5 + d.length
  | .read _ _ => 3
  | .readX _ _ => 3
  | .rread8 _ _ _ => 4
  | .rread16 _ _ _ => 5
  | .rread8X _ _ _ => 4
  | .rread16X _ _ _ => 5
  | .setto _ => 3
  | .avail => 1
  | .recv => 1
  | .armStart => 0
  | .armSend => 0
  | .armRecvAck => 0
  | .armRecvNack => 0
  | .armStop => 0
  | .ctrlDisable => 0
  | .ctrlIdle => 0

/-- The `k` bytes of a value, most significant first: `v[8k-1:8k-8], ..., v[7:0]` (R69). -/
def beBytes : Nat → Nat → List Byte
  | 0, _ => []
  | k + 1, v => BitVec.ofNat 8 (v / 256 ^ k) :: beBytes k v

/-- `WRITE8.U8`, `.U16`, `.U32`, `.U64` for `k` = 1, 2, 4, 8 (R113, R170). -/
def write8Wide (k : Nat) (sla : SlaveAddr) (sel : Byte) (v : BitVec (8 * k)) : Instr :=
  .write8 sla sel (beBytes k v.toNat)

/-- `WRITE16.U8`, `.U16`, `.U32`, `.U64` for `k` = 1, 2, 4, 8 (R113, R170). -/
def write16Wide (k : Nat) (sla : SlaveAddr) (sel : Half) (v : BitVec (8 * k)) : Instr :=
  .write16 sla sel (beBytes k v.toNat)

/-- The bytes of an opcode-table word: bits 7..0 are the first byte, and the operand bytes the table gives no bits
are zeros (five bytes hold the longest packet with an empty payload). -/
def wordBytes (nbits w : Nat) : List Byte :=
  (List.range (max (nbits / 8) 5)).map fun k => if 8 * k < nbits then BitVec.ofNat 8 (w / 256 ^ k) else 0

/-- The instruction an opcode-table word reads as. The table holds two instruction streams (log entry 21): packets of
the host and 5-bit values of `CTRL`. A word of fewer than 8 bits is a `CTRL` value. A word whose first byte is a legal
opcode byte is a packet. An 8-bit word that is no packet and fits in 5 bits is a `CTRL` value given in a whole byte. -/
def decodeTableWord (nbits w : Nat) : Option Instr :=
  if nbits < 8 then decodeCtrl false (BitVec.ofNat 5 w)
  else
    match decodePacket (wordBytes nbits w) with
    | .ok i _ => some i
    | .wait => none
    | .reject _ => if nbits = 8 ∧ w < 32 then decodeCtrl false (BitVec.ofNat 5 w) else none

end Sys2Proof
end

