-- ==== Sys2Proof/Machine/State.lean ====
section
/-! DEFINITION. The state of I2CM as plain data: what 10_state R20 lists, the line level of 43_bus_side part 2, and the
model's own four fields (`script`, `cfg`, `free`, and `seg` inside `seq`). Also the reasons a step can stop, and reset. -/
namespace Sys2Proof.Machine

/-- A byte array: cells in canonical form (addresses strictly rising, no cell holding 0, which an unlisted address
reads as; log entry 5). -/
abbrev Memory := List Host.Cell

/-- `TSTEP`: no step, or one of the document's seven TransactionSteps, numbered 1 to 7 in this order (R22, R105). -/
inductive TStep where
  | noStep | start | addressWrite | dataSend | repeatedStart | addressRead | dataReceive | stop
  deriving DecidableEq, Repr

/-- `MPH`: the micro-phase inside the running primitive, `M_DATA` to `M_DONE` (R22, R121). -/
inductive Mph where
  | data | t0 | arm | poll | status | rdData | lock0 | lock1 | done
  deriving DecidableEq, Repr

/-- Which byte of step 3 is being sent. R22's `SEQ` does not say; the model adds it (log entry 8). -/
inductive Seg where
  | selHi | selLo | payload
  deriving DecidableEq, Repr

/-- `SEQ = (TSTEP, MPH, IDX, NSTOP)`, the sequencer pointer (R22), with the model's `seg`. -/
structure SeqPtr where
  tstep : TStep
  mph : Mph
  idx : Byte
  nstop : Bool
  seg : Seg
  deriving DecidableEq, Repr

/-- The `Outcome` of a primitive (R9). -/
inductive PrimResult where
  | ok
  | timeout
  | status (s : Byte)
  deriving DecidableEq, Repr

/-- `MODE`: nothing, master transmitter, master receiver (R51). -/
inductive XMode where
  | noMode | mt | mr
  deriving DecidableEq, Repr

/-- `PEND`: the launched action (R52, R192). -/
inductive Action where
  | noAct | startAct | xferAct | stopAct | badAct
  deriving DecidableEq, Repr

/-- An event of the ghost trace `EV` (R53). A completion carries the data byte where one was received. -/
inductive Ev where
  | ctrl (w : Ctrl)
  | data (b : Byte)
  | done (s : Byte) (b : Option Byte)
  | sto
  | rx (b : Byte)
  | rsp (b : Byte)
  deriving DecidableEq, Repr

/-- Where the line level stands inside the pending action (R207, R208, R211 to R214). -/
inductive LPhase where
  | idle
  | startWait | startLow
  | repClock | repHigh | repLow
  | bitSet | bitRise | bitHigh | bitFall
  | stopRise | stopHigh | stopFree
  deriving DecidableEq, Repr

/-- The line level of the bus controller (R205, R206, R217). An output is `true` when it releases its line. -/
structure Line where
  sclO : Bool
  sdaO : Bool
  seen : Option (Bool × Bool)
  busBusy : Bool
  phase : LPhase
  shift : Byte
  bitn : Nat
  samp : Bool
  deriving DecidableEq, Repr

/-- Both lines released, nothing in progress, nothing seen of the bus (R205, R206, R217). -/
def Line.released : Line where
  sclO := true
  sdaO := true
  seen := none
  busBusy := false
  phase := .idle
  shift := 0
  bitn := 0
  samp := false

/-- A step of an agent other than the engine (R12). -/
inductive EnvEvent where
  /-- The clock: one millisecond has passed (R244). -/
  | tick
  /-- The host appends one byte to `CMDQ` (R282). -/
  | send (b : Byte)
  /-- The host takes one byte from `RSPQ` (R282). -/
  | takeRsp
  /-- The host takes one byte from `RXOUT` (R282). -/
  | takeRx
  /-- The host asserts `rst` (R265). -/
  | rst
  /-- The bus side completes the pending start or transfer with status `s` and, if it receives, data byte `b`
  (R194). `recv` is read only where the transfer has no defined direction (R193, R199; log entry 11). -/
  | done (s b : Byte) (recv : Bool)
  /-- The bus side completes the pending stop (R196). -/
  | sto
  /-- The nominal bus answers the pending action (R201): `ack` is the slave's acknowledge, `b` its byte. -/
  | nominal (ack : Bool) (b : Byte)
  /-- The line level moves once; the arguments say whether every other device releases each line (R205). -/
  | line (sclRest sdaRest : Bool)
  deriving DecidableEq, Repr

/-- One turn of the script: the engine's, or another agent's (R12; log entry 1). -/
inductive Turn where
  | engine
  | env (e : EnvEvent)
  deriving DecidableEq, Repr

/-- Why the machine stops with a fault. -/
inductive Fault where
  /-- An access to an entry of `RXBUF` that does not exist (index `RXCAP` or more). Raised by `RECV` and by the
  receive loop of a buffer-less read; R63 says it cannot occur in I2CM. Safe. -/
  | rxIndex
  deriving DecidableEq, Repr

/-- Why an instruction has no meaning in a state. -/
inductive Refusal where
  /-- Raised by an arm of `exec` that has no meaning yet. Safe. -/
  | notModelled (mnemonic : String)
  /-- Raised by every host command executed while another runs: the document calls it undefined and the spec's
  treatment is to refuse it (93_implementation_defined U1, R27). `step` never does it. Safe. -/
  | busy
  /-- Raised by every host command executed while `CMDERR = 1`: the engine takes no command then (R28). `step` never
  does it. Safe. -/
  | commandError
  deriving DecidableEq, Repr

/-- The state of I2CM. -/
structure State where
  ctrl : Ctrl
  status : Byte
  data : Byte
  timeout : Half
  now : Millis
  t0 : Millis
  rc : Byte
  busy : Bool
  cmderr : Bool
  opc : Byte
  sla : SlaveAddr
  sel : Half
  cnt : Byte
  txlen : Byte
  txbuf : Memory
  saved : Byte
  seq : SeqPtr
  outc : PrimResult
  rxbuf : Memory
  avail : Byte
  cursor : Byte
  total : Byte
  held : Bool
  mode : XMode
  pend : Action
  line : Line
  cmdq : List Byte
  rspq : List Byte
  rxout : List Byte
  ev : List Ev
  script : List Turn
  free : Nat
  cfg : Params
  deriving DecidableEq, Repr

/-- `SEQ` between commands: `(0, M_DONE, 0, 0)` (R23, R57). -/
def SeqPtr.rest : SeqPtr where
  tstep := .noStep
  mph := .done
  idx := 0
  nstop := false
  seg := .payload

/-- The machine right after reset (R57, R265). `STATUS`, `DATA`, `T0`, the operand latches, `TXBUF` and `RXBUF` are
unspecified by the spec: the model names 0 for each (log entry 5). -/
def State.reset : State where
  ctrl := 0b00011
  status := 0
  data := 0
  timeout := 0
  now := 0
  t0 := 0
  rc := 0
  busy := false
  cmderr := false
  opc := 0
  sla := 0
  sel := 0
  cnt := 0
  txlen := 0
  txbuf := []
  saved := 0
  seq := SeqPtr.rest
  outc := .ok
  rxbuf := []
  avail := 0
  cursor := 0
  total := 0
  held := false
  mode := .noMode
  pend := .noAct
  line := Line.released
  cmdq := []
  rspq := []
  rxout := []
  ev := []
  script := []
  free := 0
  cfg := Params.default

end Sys2Proof.Machine
end

