-- ==== Sys2Proof/Machine/Flags.lean ====
section
/-! DEFINITION. The flags and the tests made on them: the five bits of `CTRL` (10_state R30 to R35), the poll iteration
(40_primitives R123), the classification of a status (R131, R134, R137, R140), and what a status does to `HELD` and
`MODE` (43_bus_side R200). -/
namespace Sys2Proof.Machine

/-- `CTRL.EN` (R31). -/
def ctrlEN (c : Ctrl) : Bool := c.getLsbD 0
/-- `CTRL.EA` (R32). -/
def ctrlEA (c : Ctrl) : Bool := c.getLsbD 1
/-- `CTRL.STA` (R33). -/
def ctrlSTA (c : Ctrl) : Bool := c.getLsbD 2
/-- `CTRL.STO` (R34). -/
def ctrlSTO (c : Ctrl) : Bool := c.getLsbD 3
/-- `CTRL.CF` (R35). -/
def ctrlCF (c : Ctrl) : Bool := c.getLsbD 4

/-- `CTRL` with `CF` set: what a completion does to it (R35, R194). -/
def setCF (c : Ctrl) : Ctrl := c ||| 0b10000

/-- `CTRL` with `STO` cleared: what a completed stop does to it (R34, R196). -/
def clearSTO (c : Ctrl) : Ctrl := c &&& 0b10111

/-- `CTRL` after an arm write `w`: `EN`, `EA`, `STA`, `STO` from `w`, `CF` cleared (R95). -/
def armedCtrl (w : Ctrl) : Ctrl := w &&& 0b01111

/-- `CTRL` after an enabled write `w` that is no arm: the four bits from `w`, `CF` unchanged (R95, R202). -/
def idleCtrl (w c : Ctrl) : Ctrl := (c &&& 0b10000) ||| (w &&& 0b01111)

/-- What one poll iteration answers (R123). -/
inductive Poll where
  | completed | timedOut | continue
  deriving DecidableEq, Repr

/-- Elapsed milliseconds, modulo 2^32 (R245). -/
def elapsed (now t0 : Millis) : Millis := now - t0

/-- One poll iteration: completion first, then the timeout, which a threshold of 0 disables (R123, R124). -/
def pollIteration (done : Bool) (timeout : Half) (now t0 : Millis) : Poll :=
  if done then .completed
  else if timeout ≠ 0 ∧ timeout.toNat ≤ (elapsed now t0).toNat then .timedOut
  else .continue

/-- The five primitives (R120); `addr` carries the direction bit, `recv` the acknowledge bit. -/
inductive Prim where
  | start
  | addr (d : Bool)
  | byte
  | recv (ack : Bool)
  | stop
  deriving DecidableEq, Repr

/-- "The loop condition": `poll_cf` for four primitives, `poll_sto` for `stop` (R122). -/
def pollDone (p : Prim) (c : Ctrl) : Bool :=
  match p with
  | .start => ctrlCF c
  | .addr _ => ctrlCF c
  | .byte => ctrlCF c
  | .recv _ => ctrlCF c
  | .stop => !ctrlSTO c

/-- The class of a status (R225): success, a slave's refusal, or anything else. -/
inductive Verdict where
  | success | nack | busFault
  deriving DecidableEq, Repr

/-- Classification of the saved status by the primitive that reads it (R131, R134, R137, R140, R243). `stop` reads
none (R143). -/
def classify (cfg : Params) (p : Prim) (s : Byte) : Verdict :=
  match p with
  | .start => if s = cfg.stStart ∨ s = cfg.stRepStart then .success else .busFault
  | .addr false =>
    if s = cfg.stMtSlaAck then .success else if s = cfg.stMtSlaNack then .nack else .busFault
  | .addr true =>
    if s = cfg.stMrSlaAck then .success else if s = cfg.stMrSlaNack then .nack else .busFault
  | .byte =>
    if s = cfg.stMtDataAck then .success else if s = cfg.stMtDataNack then .nack else .busFault
  | .recv ack => if s = (if ack then cfg.stMrDataAck else cfg.stMrDataNack) then .success else .busFault
  | .stop => .success

/-- `HELD` after a completion with status `s` (R200). -/
def heldAfter (cfg : Params) (s : Byte) (held : Bool) : Bool :=
  if s = cfg.stStart ∨ s = cfg.stRepStart then true
  else if s = cfg.stLostArb then false
  else held

/-- `MODE` after a completion with status `s` (R200). -/
def modeAfter (cfg : Params) (s : Byte) (mode : XMode) : XMode :=
  if s = cfg.stStart ∨ s = cfg.stRepStart then .noMode
  else if s = cfg.stMtSlaAck ∨ s = cfg.stMtSlaNack then .mt
  else if s = cfg.stMrSlaAck ∨ s = cfg.stMrSlaNack then .mr
  else if s = cfg.stLostArb then .noMode
  else mode

/-- The direction of a transfer (R193): send, receive, or none defined. -/
inductive Dir where
  | send | receive | undefined
  deriving DecidableEq, Repr

/-- A transfer sends in the address phase and in `MT`, receives in `MR`, and has no defined direction with
`MODE = NONE` and `HELD = 0` (R193). -/
def xferDir (held : Bool) (mode : XMode) : Dir :=
  match mode with
  | .mt => .send
  | .mr => .receive
  | .noMode => if held then .send else .undefined

end Sys2Proof.Machine
end

