-- ==== Sys2Proof/Machine/Ops.lean ====
section
/-! DEFINITION. The named operations over the state: the byte arrays, the trace, the free status, the control-register
write (30_encoding R95), the recovery from a failure (60_exceptions R230) and the end of a command (41_transactions
R151, 30_encoding R115). -/
namespace Sys2Proof.Machine

/-- Read one cell; an unlisted address reads as 0 (log entry 5). -/
def Memory.read : Memory → Nat → Byte
  | [], _ => 0
  | (b, v) :: m, a => if a = b then v else Memory.read m a

/-- Write one cell, keeping the canonical form. -/
def Memory.write : Memory → Nat → Byte → Memory
  | [], a, v => if v = 0 then [] else [(a, v)]
  | (b, w) :: m, a, v =>
    if a < b then (if v = 0 then (b, w) :: m else (a, v) :: (b, w) :: m)
    else if a = b then (if v = 0 then m else (a, v) :: m)
    else (b, w) :: Memory.write m a v

/-- Write consecutive cells from address `a` up. -/
def Memory.writeList (m : Memory) (a : Nat) : List Byte → Memory
  | [] => m
  | v :: vs => Memory.writeList (Memory.write m a v) (a + 1) vs

/-- Every address is above `lo`, the addresses rise strictly, and no cell holds 0. -/
def Memory.wfFrom (lo : Nat) : Memory → Bool
  | [] => true
  | (a, v) :: m => decide (lo ≤ a) && decide (v ≠ 0) && Memory.wfFrom (a + 1) m

/-- The canonical form. -/
def Memory.wf (m : Memory) : Bool := Memory.wfFrom 0 m

/-- Every listed address is below `n`. -/
def Memory.below (n : Nat) (m : Memory) : Bool := m.all fun c => decide (c.1 < n)

/-- Append an event to the trace: `emit e` (R8, R53). -/
def emit (e : Ev) (s : State) : State := { s with ev := s.ev ++ [e] }

/-- `STATUS` becomes unspecified: the next free byte (R36, R196, R197, U10; log entry 6). -/
def freshStatus (s : State) : State := { s with status := Config.freeByte s.free, free := s.free + 1 }

/-- Move to another micro-phase of the running primitive (R121). -/
def gotoPhase (m : Mph) (s : State) : State := { s with seq := { s.seq with mph := m } }

/-- The action an arm write launches (R192). -/
def actionOf (w : Ctrl) : Action :=
  match ctrlSTA w, ctrlSTO w with
  | true, false => .startAct
  | false, false => .xferAct
  | false, true => .stopAct
  | true, true => .badAct

/-- A disable: `CTRL`, `PEND`, `HELD` and `MODE` cleared, both lines released, `STATUS` unspecified, `DATA` unchanged
(R197, R217). -/
def disable (s : State) : State :=
  { freshStatus s with ctrl := 0, pend := .noAct, held := false, mode := .noMode, line := Line.released }

/-- An arm: the flag is cleared and the action launched (R95, R96). `STATUS` is unspecified while an action is pending
(U10; log entry 6). The line level starts the action afresh. -/
def arm (w : Ctrl) (s : State) : State :=
  { freshStatus s with
    ctrl := armedCtrl w
    pend := actionOf w
    line := { s.line with phase := .idle, shift := 0, bitn := 0 } }

/-- An engine write `CTRL <- w`, for every `w` (R95). -/
def ctrlWrite (w : Ctrl) (s : State) : State :=
  if ctrlEN w = false then disable (emit (.ctrl w) s)
  else if ctrlCF w then arm w (emit (.ctrl w) s)
  else { emit (.ctrl w) s with ctrl := idleCtrl w s.ctrl }

/-- An engine write of the data register (R37, R272). -/
def dataWrite (b : Byte) (s : State) : State := { emit (.data b) s with data := b }

/-- Append a byte to the caller's buffer: `MemWrite(RXOUT, 1, b)` (R8, R67). -/
def rxAppend (b : Byte) (s : State) : State := { emit (.rx b) s with rxout := s.rxout ++ [b] }

/-- Append the response byte and clear `BUSY` (R115). -/
def respond (b : Byte) (s : State) : State := { emit (.rsp b) s with rspq := s.rspq ++ [b], busy := false }

/-- The end of a primitive or transaction command with return code `c` (R145, R151). -/
def finish (c : Byte) (s : State) : State := respond c { s with rc := c, seq := SeqPtr.rest }

/-- TAKING A FAILURE: what stands where a processor takes an exception (60_exceptions, introduction). The primitive's
outcome is noted (log entry 9) and the engine goes on to lockup recovery (R227, R229). Nothing else is saved (R237). -/
def takeFailure (o : PrimResult) (s : State) : State := gotoPhase .lock0 { s with outc := o }

/-- The first write of `lockup()`: deactivate (R230, `M_LOCK0`). -/
def lockupFirst (s : State) : State := gotoPhase .lock1 (ctrlWrite 0b00000 s)

/-- The second write of `lockup()`: reactivate with acknowledge generation enabled (R230, `M_LOCK1`). -/
def lockupSecond (s : State) : State := gotoPhase .done (ctrlWrite 0b00011 s)

/-- The number of a step (R105, R233); 0 when no step runs (R22). -/
def stepCode : TStep → Byte
  | .noStep => 0
  | .start => 1
  | .addressWrite => 2
  | .dataSend => 3
  | .repeatedStart => 4
  | .addressRead => 5
  | .dataReceive => 6
  | .stop => 7

/-- THE RETURN: the ErrorMapper, which turns an outcome into a return code (R232). -/
def rcOf (o : PrimResult) (k : Byte) : Byte :=
  match o with
  | .ok => 0
  | .timeout => k
  | .status s => s

end Sys2Proof.Machine
end

