-- ==== Sys2Proof/Machine/Operands.lean ====
section
/-! DEFINITION. The operands: the latches of a command (10_state R21, 30_encoding R87), the flags of the opcode byte
(R88), the address byte (R102), the effective byte count and the acknowledge pattern (41_transactions R157, R161), the
byte each send writes and the pattern each arm writes (R97). -/
namespace Sys2Proof.Machine

/-- The address byte `{a7[6:0], d}` (R102). -/
def addressByte (a7 : SlaveAddr) (d : Bool) : Byte := a7 ++ BitVec.ofBool d

/-- Flags `r`, `d`, `a`, `W`: bit 0 of the opcode byte (R88). -/
def flag0 (opc : Byte) : Bool := opc.getLsbD 0

/-- Flag `X`: bit 1 of the opcode byte of `READ` and `RREAD` (R88). -/
def flagX (opc : Byte) : Bool := opc.getLsbD 1

/-- What kind of command runs: a transaction, or a single primitive (R88, R145, R150). -/
inductive CmdKind where
  | primitive | write | read | rread
  deriving DecidableEq, Repr

/-- The kind, from the major opcode of the latched opcode byte (R89). -/
def kindOf (opc : Byte) : CmdKind :=
  if opc.extractLsb' 4 4 = 8 then .write
  else if opc.extractLsb' 4 4 = 9 then .read
  else if opc.extractLsb' 4 4 = 10 then .rread
  else .primitive

/-- `effective_count(CNT, X)`: 0 becomes 1; clamped to `RXCAP` only when the bytes go to the ReceiveBuffer (R157). -/
def effectiveCount (cnt : Byte) (x : Bool) (rxcap : Nat) : Nat :=
  if x then max cnt.toNat 1 else min (max cnt.toNat 1) rxcap

/-- The effective count of the running read. -/
def countOf (s : State) : Nat := effectiveCount s.cnt (flagX s.opc) s.cfg.rxcap

/-- The acknowledge bit of the receive that runs: `RBYTE`'s flag `a` (R139), or in a read 0 for the last byte and 1 for
the others (R161). -/
def ackOf (s : State) : Bool :=
  match kindOf s.opc with
  | .primitive => flag0 s.opc
  | .write => flag0 s.opc
  | .read => decide (s.seq.idx.toNat + 1 ≠ countOf s)
  | .rread => decide (s.seq.idx.toNat + 1 ≠ countOf s)

/-- The primitive a step runs (R233). -/
def primOfStep (t : TStep) (ack : Bool) : Option Prim :=
  match t with
  | .noStep => none
  | .start => some .start
  | .addressWrite => some (.addr false)
  | .dataSend => some .byte
  | .repeatedStart => some .start
  | .addressRead => some (.addr true)
  | .dataReceive => some (.recv ack)
  | .stop => some .stop

/-- The primitive that runs: the nested `stop` while `NSTOP = 1` (R22, R127), else the one of `TSTEP`. -/
def currentPrim (s : State) : Option Prim :=
  if s.seq.nstop then some .stop else primOfStep s.seq.tstep (ackOf s)

/-- The byte step 3 sends: a selector byte, high byte first, or the `IDX`-th payload byte (R152, R164). -/
def sendOperand (s : State) : Byte :=
  match s.seq.seg with
  | .selHi => hiByte s.sel
  | .selLo => loByte s.sel
  | .payload => s.txbuf.read s.seq.idx.toNat

/-- What `M_DATA` writes to `DATA`: the address byte or the byte to send; the other primitives have no `M_DATA`
(R121, R133, R136). -/
def dataOperand (p : Prim) (s : State) : Option Byte :=
  match p with
  | .addr d => some (addressByte s.sla d)
  | .byte => some (sendOperand s)
  | .start => none
  | .recv _ => none
  | .stop => none

/-- The control-register write each primitive arms with (R97). -/
def armInstr (p : Prim) : Instr :=
  match p with
  | .start => .armStart
  | .addr _ => .armSend
  | .byte => .armSend
  | .recv true => .armRecvAck
  | .recv false => .armRecvNack
  | .stop => .armStop

/-- The arm pattern as a value (R97). -/
def armWord (p : Prim) : Ctrl := (encodeCtrl (armInstr p)).getD 0

/-- The first micro-phase of a step: `M_DATA` for a send, `M_T0` otherwise (R121). -/
def firstPhase (t : TStep) : Mph :=
  match t with
  | .noStep => .done
  | .start => .t0
  | .addressWrite => .data
  | .dataSend => .data
  | .repeatedStart => .t0
  | .addressRead => .data
  | .dataReceive => .t0
  | .stop => .t0

/-- Begin a step: the primitive call a transaction makes next (R150). -/
def beginStep (t : TStep) (g : Seg) (idx : Byte) (s : State) : State :=
  { s with seq := { tstep := t, mph := firstPhase t, idx := idx, nstop := false, seg := g } }

/-- Latch the opcode byte and set `BUSY` (R87). -/
def latchOpc (o : Op) (s : State) : State := { s with opc := o.byte, busy := true }

/-- Latch the slave address (R21, R87). -/
def latchSla (a : SlaveAddr) (s : State) : State := { s with sla := a }

/-- Latch an 8-bit selector: `SEL[7:0]`, with `SEL[15:8]` unspecified (R86; log entry 7). -/
def latchSel8 (e : Byte) (s : State) : State :=
  { s with sel := Config.freeByte s.free ++ e, free := s.free + 1 }

/-- Latch a 16-bit selector (R86). -/
def latchSel16 (e : Half) (s : State) : State := { s with sel := e }

/-- Latch the requested count (R86). -/
def latchCnt (c : Byte) (s : State) : State := { s with cnt := c }

/-- Latch a payload: `TXLEN` and `TXBUF[0..TXLEN-1]` (R65, R86). `TXBUF` has 255 entries (R21). -/
def latchPayload (d : List Byte) (s : State) : State :=
  { s with txlen := BitVec.ofNat 8 d.length, txbuf := s.txbuf.writeList 0 (d.take 255) }

/-- A buffer-less read empties the ReceiveBuffer before its first primitive; a read into the caller's buffer leaves it
alone (R159). -/
def clearReceive (s : State) : State :=
  if flagX s.opc then s else { s with avail := 0, cursor := 0, total := 0 }

/-- The position of the first selector byte: the high byte when `W = 1` (R152). -/
def firstSel (opc : Byte) : Seg := if flag0 opc then .selHi else .selLo

end Sys2Proof.Machine
end

