-- ==== Sys2Proof/Machine/Bus.lean ====
section
/-! DEFINITION. The bus side at register level: completions (43_bus_side R191, R193 to R200), the nominal bus (R201).
The bus side acts only while `CTRL.EN = 1` and an action is pending (R191); a turn that is not enabled changes nothing
(log entry 22). -/
namespace Sys2Proof.Machine

/-- The lines between actions: the clock held low while the bus is held, both lines released otherwise (R195, R218).
A start or repeated-start status makes the bus busy (R206). -/
def settleLine (starts : Bool) (held : Bool) (l : Line) : Line :=
  { l with
    phase := .idle
    sclO := !held
    sdaO := if held then l.sdaO else true
    busBusy := starts || l.busBusy }

/-- Whether the pending action, when it completes, writes a received byte to `DATA` (R193, R194). A start never does.
A transfer with no defined direction, and `BadAct`, may (R199, U11): the turn says so (log entry 11). A transfer that
sends by R193 writes no `DATA`, also where it is out of sequence and R199 allows any data byte: a receive the engine meant
in the address phase (`HELD = 1`, `MODE = NONE`), a transfer with `HELD = 0` and `MODE = MT` (DEDUCED, log entry 33). -/
def receivesByte (s : State) (recv : Bool) : Bool :=
  match s.pend with
  | .noAct => false
  | .startAct => false
  | .stopAct => false
  | .badAct => recv
  | .xferAct =>
    match xferDir s.held s.mode with
    | .send => false
    | .receive => true
    | .undefined => recv

/-- `complete(s, b)` (R194, R200), as one indivisible event (R76). -/
def completeAction (st b : Byte) (recv : Bool) (s : State) : State :=
  { emit (.done st (if receivesByte s recv then some b else none)) s with
    status := st
    data := if receivesByte s recv then b else s.data
    ctrl := setCF s.ctrl
    pend := .noAct
    held := heldAfter s.cfg st s.held
    mode := modeAfter s.cfg st s.mode
    line := settleLine (decide (st = s.cfg.stStart ∨ st = s.cfg.stRepStart)) (heldAfter s.cfg st s.held) s.line }

/-- Completion of a stop (R196). Where this master held the bus, its stop condition frees the bus for the tracker (R206,
log entry 26); a stop armed with `HELD = 0` (R199) puts no stop condition on the lines, and the tracker keeps what it saw. -/
def completeStop (s : State) : State :=
  { freshStatus (emit .sto s) with
    ctrl := clearSTO s.ctrl
    pend := .noAct
    held := false
    mode := .noMode
    line := { settleLine false false s.line with busBusy := !s.held && s.line.busBusy } }

/-- The bus side completes a pending start, transfer or `BadAct` with any status and any byte (R191, R194, R199). -/
def busDone (st b : Byte) (recv : Bool) (s : State) : State :=
  if ctrlEN s.ctrl then
    match s.pend with
    | .noAct => s
    | .startAct => completeAction st b recv s
    | .xferAct => completeAction st b recv s
    | .badAct => completeAction st b recv s
    | .stopAct => s
  else s

/-- The bus side completes a pending stop (R191, R196). -/
def busStop (s : State) : State :=
  if ctrlEN s.ctrl then
    match s.pend with
    | .noAct => s
    | .startAct => s
    | .xferAct => s
    | .badAct => s
    | .stopAct => completeStop s
  else s

/-- The status the nominal bus answers a transfer with (R201): `addr` says whether this is the address phase. -/
def nominalXfer (cfg : Params) (mode : XMode) (data : Byte) (ea ack : Bool) : Byte :=
  match mode with
  | .noMode =>
    if data.getLsbD 0 then (if ack then cfg.stMrSlaAck else cfg.stMrSlaNack)
    else (if ack then cfg.stMtSlaAck else cfg.stMtSlaNack)
  | .mt => if ack then cfg.stMtDataAck else cfg.stMtDataNack
  | .mr => if ea then cfg.stMrDataAck else cfg.stMrDataNack

/-- The nominal bus completes the pending action (R201). It has no answer to a transfer with no defined direction and
none to `BadAct` (log entry 30). -/
def busNominal (ack : Bool) (b : Byte) (s : State) : State :=
  if ctrlEN s.ctrl then
    match s.pend with
    | .noAct => s
    | .startAct => completeAction (if s.held then s.cfg.stRepStart else s.cfg.stStart) b false s
    | .xferAct =>
      match xferDir s.held s.mode with
      | .send => completeAction (nominalXfer s.cfg s.mode s.data (ctrlEA s.ctrl) ack) b false s
      | .receive => completeAction (nominalXfer s.cfg s.mode s.data (ctrlEA s.ctrl) ack) b false s
      | .undefined => s
    | .stopAct => completeStop s
    | .badAct => s
  else s

end Sys2Proof.Machine
end

