-- ==== Sys2Proof/Machine/Lines.lean ====
section
/-! DEFINITION. The line level of the bus side (43_bus_side R205 to R218), all of it from general knowledge as the spec
itself marks it (log entry 15): two wired-AND lines, the bus-busy tracker, the start and stop condition generator, the
byte transmitter, the byte receiver and the arbitrator. Each turn is one sample of the two lines and one move. It
reaches the registers only through the completions of Bus (R220). -/
namespace Sys2Proof.Machine

/-- A start condition between two samples: data falls while the clock is high (R206, R207). -/
def startSeen (seen : Option (Bool × Bool)) (scl sda : Bool) : Bool :=
  match seen with
  | none => false
  | some (scl0, sda0) => scl0 && scl && sda0 && !sda

/-- A stop condition between two samples: data rises while the clock is high (R206, R214). -/
def stopSeen (seen : Option (Bool × Bool)) (scl sda : Bool) : Bool :=
  match seen with
  | none => false
  | some (scl0, sda0) => scl0 && scl && !sda0 && sda

/-- The bus is busy from a start condition, from any master, until the next stop condition (R206). -/
def track (scl sda : Bool) (l : Line) : Line :=
  { l with
    seen := some (scl, sda)
    busBusy := if startSeen l.seen scl sda then true else if stopSeen l.seen scl sda then false else l.busBusy }

/-- Replace the line-level state. -/
def withLine (l : Line) (s : State) : State := { s with line := l }

/-- `StartAct` (R207): wait until the bus is free and the clock high, pull data low, pull the clock low. With the bus
held: release data, release the clock, wait for it to be high, pull data low, pull the clock low. The moves are R207's and
it looks at nothing else: where another device prevents the start condition (it already holds data low, or pulls the clock
low before data falls), of which R207 says nothing, the action completes all the same (DESIGN CHOICE, log entry 35). -/
def lineStart (scl : Bool) (s : State) : State :=
  match s.line.phase with
  | .startLow => completeAction s.cfg.stStart 0 false (withLine { s.line with sclO := false } s)
  | .repClock => withLine { s.line with sclO := true, phase := .repHigh } s
  | .repHigh => if scl then withLine { s.line with sdaO := false, phase := .repLow } s else s
  | .repLow => completeAction s.cfg.stRepStart 0 false (withLine { s.line with sclO := false } s)
  | .idle =>
    if s.held then withLine { s.line with sdaO := true, phase := .repClock } s
    else if !s.line.busBusy && scl then withLine { s.line with sdaO := false, phase := .startLow } s
    else withLine { s.line with phase := .startWait } s
  | .startWait =>
    if !s.line.busBusy && scl then withLine { s.line with sdaO := false, phase := .startLow } s else s
  | .bitSet => s
  | .bitRise => s
  | .bitHigh => s
  | .bitFall => s
  | .stopRise => s
  | .stopHigh => s
  | .stopFree => s

/-- The bit this master puts on the data line: a bit of the byte it sends, most significant first, and released for
the slave's acknowledge (R211, R212); released for a byte it receives, then its own acknowledge from `EA` (R213). -/
def outgoingBit (sending : Bool) (ea : Bool) (l : Line) : Bool :=
  if sending then (if l.bitn < 8 then l.shift.getLsbD 7 else true)
  else (if l.bitn < 8 then true else !ea)

/-- Whether this bit is one this master sends, so that arbitration can be lost in it (R210, R215). -/
def arbitratedBit (sending : Bool) (l : Line) : Bool :=
  if sending then decide (l.bitn < 8) else decide (8 ≤ l.bitn)

/-- The status of a finished transfer (R211, R212, R213): `samp` is the ninth bit, low for ACK. -/
def xferStatus (cfg : Params) (mode : XMode) (data : Byte) (ea samp : Bool) : Byte :=
  nominalXfer cfg mode data ea (!samp)

/-- `XferAct` (R208 to R213): eight bits and an acknowledge, each bit set while the clock is low, sampled while it is
high. A lost arbitration ends the transfer at once (R210); a start or stop condition in the middle of the byte is a
bus error (R216). A receive cut short so writes to `DATA` the shift register as it stands (the bits shifted in so far after
a bus error, the eight sampled bits after an arbitration lost in the NACK bit): R194 leaves the byte free and R210 and
R216 name none (DESIGN CHOICE, log entry 32). -/
def lineXfer (sending : Bool) (scl sda cond : Bool) (s : State) : State :=
  match s.line.phase with
  | .idle =>
    withLine
      { s.line with
        shift := if sending then s.data else 0
        bitn := 0
        sdaO := if sending then s.data.getLsbD 7 else true
        phase := .bitRise } s
  | .bitSet =>
    withLine { s.line with sdaO := outgoingBit sending (ctrlEA s.ctrl) s.line, phase := .bitRise } s
  | .bitRise => withLine { s.line with sclO := true, phase := .bitHigh } s
  | .bitHigh =>
    if scl then
      if arbitratedBit sending s.line && outgoingBit sending (ctrlEA s.ctrl) s.line && !sda then
        completeAction s.cfg.stLostArb s.line.shift false s
      else withLine { s.line with samp := sda, phase := .bitFall } s
    else s
  | .bitFall =>
    if cond then completeAction s.cfg.stBusErr s.line.shift false s
    else if s.line.bitn < 8 then
      withLine
        { s.line with
          sclO := false
          shift := s.line.shift <<< 1 ||| (BitVec.ofBool s.line.samp).setWidth 8
          bitn := s.line.bitn + 1
          phase := .bitSet } s
    else
      completeAction (xferStatus s.cfg s.mode s.data (ctrlEA s.ctrl) s.line.samp) s.line.shift false
        (withLine { s.line with sclO := false } s)
  | .startWait => s
  | .startLow => s
  | .repClock => s
  | .repHigh => s
  | .repLow => s
  | .stopRise => s
  | .stopHigh => s
  | .stopFree => s

/-- `StopAct` (R214): with the clock low pull data low, release the clock and wait for it to be high, release data; done
when the stop condition is seen on the lines (`stopped`): data rises while the clock is high. Where another device pulls
the clock low first and data rises then, there is none, and the action waits for one (log entry 34). -/
def lineStop (scl stopped : Bool) (s : State) : State :=
  match s.line.phase with
  | .idle => withLine { s.line with sdaO := false, phase := .stopRise } s
  | .stopRise => withLine { s.line with sclO := true, phase := .stopHigh } s
  | .stopHigh => if scl then withLine { s.line with sdaO := true, phase := .stopFree } s else s
  | .stopFree => if stopped then completeStop s else s
  | .startWait => s
  | .startLow => s
  | .repClock => s
  | .repHigh => s
  | .repLow => s
  | .bitSet => s
  | .bitRise => s
  | .bitHigh => s
  | .bitFall => s

/-- The move of the pending action. The line level gives no progress to an action armed out of sequence (R199; log
entry 17): a transfer or a stop with the bus not held, `BadAct`. `started` and `stopped` say whether this sample shows a
start or a stop condition. -/
def lineMove (scl sda started stopped : Bool) (s : State) : State :=
  match s.pend with
  | .noAct => s
  | .startAct => lineStart scl s
  | .xferAct =>
    if s.held then
      match xferDir s.held s.mode with
      | .send => lineXfer true scl sda (started || stopped) s
      | .receive => lineXfer false scl sda (started || stopped) s
      | .undefined => s
    else s
  | .stopAct => if s.held then lineStop scl stopped s else s
  | .badAct => s

/-- One turn of the line level: a line is low if any device pulls it low (R205); the tracker sees the sample, then the
pending action moves (R191). With `EN = 0` nothing is driven and nothing tracked (R205, R206). -/
def lineStep (sclRest sdaRest : Bool) (s : State) : State :=
  if ctrlEN s.ctrl then
    lineMove (s.line.sclO && sclRest) (s.line.sdaO && sdaRest)
      (startSeen s.line.seen (s.line.sclO && sclRest) (s.line.sdaO && sdaRest))
      (stopSeen s.line.seen (s.line.sclO && sclRest) (s.line.sdaO && sdaRest))
      (withLine (track (s.line.sclO && sclRest) (s.line.sdaO && sdaRest) s.line) s)
  else s

end Sys2Proof.Machine
end

