-- ==== Sys2Proof/Machine/Env.lean ====
section
/-! DEFINITION. The steps of the agents other than the engine (00_scope R12): the clock, the host, reset, the bus side. -/
namespace Sys2Proof.Machine

/-- The clock's only step (R244). -/
def tick (s : State) : State := { s with now := s.now + 1 }

/-- The host appends a command byte (R54, R282). -/
def hostSend (b : Byte) (s : State) : State := { s with cmdq := s.cmdq ++ [b] }

/-- The host takes the oldest response byte (R55, R282). From an empty `RSPQ` it takes nothing and nothing changes: the
spec does not say what such a take does (DESIGN CHOICE, log entry 23). -/
def hostTakeRsp (s : State) : State := { s with rspq := s.rspq.drop 1 }

/-- The host takes the oldest byte of the caller's buffer (R56, R282). From an empty `RXOUT` it takes nothing and nothing
changes: the spec does not say what such a take does (DESIGN CHOICE, log entry 23). -/
def hostTakeRx (s : State) : State := { s with rxout := s.rxout.drop 1 }

/-- The host asserts `rst`: the reset state, from which the run continues (R265, R267). The parameters are fixed
(R58); the turns still to come and the counter of free values are the model's own and go on (log entry 24). -/
def resetNow (s : State) : State := { State.reset with cfg := s.cfg, script := s.script, free := s.free }

/-- One step of another agent (R12). -/
def envStep (e : EnvEvent) (s : State) : State :=
  match e with
  | .tick => tick s
  | .send b => hostSend b s
  | .takeRsp => hostTakeRsp s
  | .takeRx => hostTakeRx s
  | .rst => resetNow s
  | .done st b recv => busDone st b recv s
  | .sto => busStop s
  | .nominal ack b => busNominal ack b s
  | .line sclRest sdaRest => lineStep sclRest sdaRest s

end Sys2Proof.Machine
end

