-- ==== Sys2Proof/Machine/Engine.lean ====
section
/-! DEFINITION. The engine: one micro-phase of the running command as one step (40_primitives R121), the order of the
primitives of each command (R145, 41_transactions R152, R158, R164), and the run of a command through the turns of the
script (log entries 1 and 2). -/
namespace Sys2Proof.Machine

/-- The engine's answer when it goes on. -/
abbrev Result := Host.Outcome State Fault Refusal

/-- `M_DATA`: write the data register, then `M_T0` (R121, R133, R136). -/
def phaseData (p : Prim) (s : State) : State :=
  match dataOperand p s with
  | some b => gotoPhase .t0 (dataWrite b s)
  | none => gotoPhase .t0 s

/-- `M_T0`: `T0 <- NOW` (R40, R121). -/
def phaseT0 (s : State) : State := gotoPhase .arm { s with t0 := s.now }

/-- `M_ARM`: the primitive's arm pattern (R97, R121). -/
def phaseArm (p : Prim) (s : State) : State := gotoPhase .poll (ctrlWrite (armWord p) s)

/-- The phase after a completed poll: `stop` has no status to read and succeeds (R143); the others go to `M_STATUS`. -/
def afterCompletion (p : Prim) (s : State) : State :=
  match p with
  | .stop => gotoPhase .done { s with outc := .ok }
  | .start => gotoPhase .status s
  | .addr _ => gotoPhase .status s
  | .byte => gotoPhase .status s
  | .recv _ => gotoPhase .status s

/-- `M_POLL`: one poll iteration (R122, R123). A timeout goes to lockup recovery (R227). -/
def phasePoll (p : Prim) (s : State) : State :=
  match pollIteration (pollDone p s.ctrl) s.timeout s.now s.t0 with
  | .completed => afterCompletion p s
  | .timedOut => takeFailure .timeout s
  | .continue => s

/-- The NACK path: `NSTOP <- 1` and the whole `stop` primitive (R127). -/
def beginNestedStop (s : State) : State := { s with seq := { s.seq with mph := .t0, nstop := true } }

/-- `M_STATUS`: `SAVED <- STATUS`, then classification (R126, R131, R134, R137, R140). -/
def phaseStatus (p : Prim) (s : State) : State :=
  match classify s.cfg p s.status with
  | .success => gotoPhase .done { s with saved := s.status, outc := .ok }
  | .nack => beginNestedStop { s with saved := s.status }
  | .busFault => takeFailure (.status s.status) { s with saved := s.status }

/-- The end of the nested stop: its outcome is discarded and the primitive yields `Status(SAVED)` (R127). -/
def endNestedStop (s : State) : State :=
  { s with seq := { s.seq with nstop := false, mph := .done }, outc := .status s.saved }

/-- The first byte of step 3 (R152, R164). -/
def beginSelector (s : State) : State := beginStep .dataSend (firstSel s.opc) 0 s

/-- The send loop of `WRITE` at index `i`: the next payload byte, or the final stop (R152). -/
def payloadOrStop (i : Byte) (s : State) : State :=
  if i.toNat < s.txlen.toNat then beginStep .dataSend .payload i s else beginStep .stop .payload s.seq.idx s

/-- The next primitive of `WRITE` after one that succeeded (R152). -/
def advanceWrite (s : State) : State :=
  match s.seq.tstep with
  | .start => beginStep .addressWrite .payload 0 s
  | .addressWrite => beginSelector s
  | .dataSend =>
    match s.seq.seg with
    | .selHi => beginStep .dataSend .selLo 0 s
    | .selLo => payloadOrStop 0 s
    | .payload => payloadOrStop (s.seq.idx + 1) s
  | .stop => finish 0 s
  | .noStep => finish 0 s
  | .repeatedStart => finish 0 s
  | .addressRead => finish 0 s
  | .dataReceive => finish 0 s

/-- The next primitive of `READ` after one that succeeded; a received byte is stored first (R158, R160). -/
def advanceRead (s : State) : State :=
  match s.seq.tstep with
  | .start => beginStep .addressRead .payload 0 s
  | .addressRead => beginStep .dataReceive .payload 0 s
  | .dataReceive => gotoPhase .rdData s
  | .stop => finish 0 s
  | .noStep => finish 0 s
  | .addressWrite => finish 0 s
  | .dataSend => finish 0 s
  | .repeatedStart => finish 0 s

/-- The next primitive of `RREAD` after one that succeeded (R164, R165). -/
def advanceRRead (s : State) : State :=
  match s.seq.tstep with
  | .start => beginStep .addressWrite .payload 0 s
  | .addressWrite => beginSelector s
  | .dataSend =>
    match s.seq.seg with
    | .selHi => beginStep .dataSend .selLo 0 s
    | .selLo => beginStep .repeatedStart .payload 0 s
    | .payload => beginStep .repeatedStart .payload 0 s
  | .repeatedStart => beginStep .addressRead .payload 0 s
  | .addressRead => beginStep .dataReceive .payload 0 s
  | .dataReceive => gotoPhase .rdData s
  | .stop => finish 0 s
  | .noStep => finish 0 s

/-- What follows a primitive that ended `Ok`: the end of a primitive command (R145), or the next call (R150). -/
def advance (s : State) : State :=
  match kindOf s.opc with
  | .primitive => finish 0 s
  | .write => advanceWrite s
  | .read => advanceRead s
  | .rread => advanceRRead s

/-- `check(o, k)`: a failure ends the command with its return code (R145, R151, R232). -/
def checkOutcome (s : State) : State :=
  match s.outc with
  | .ok => advance s
  | .timeout => finish (rcOf .timeout (stepCode s.seq.tstep)) s
  | .status c => finish (rcOf (.status c) (stepCode s.seq.tstep)) s

/-- `M_DONE`: the primitive yields its outcome (R121). -/
def phaseDone (s : State) : State := if s.seq.nstop then endNestedStop s else checkOutcome s

/-- After a stored byte: the next receive, or the final stop (R158). -/
def nextReceive (s : State) : State :=
  if s.seq.idx.toNat + 1 < countOf s then beginStep .dataReceive .payload (s.seq.idx + 1) s
  else beginStep .stop .payload s.seq.idx s

/-- Store a received byte in the ReceiveBuffer (R160). -/
def storeByte (s : State) : State :=
  { s with rxbuf := s.rxbuf.write s.seq.idx.toNat s.data, avail := s.avail + 1, total := s.total + 1 }

/-- `M_RDDATA`: read `DATA` and store the byte at once (R121, R160). -/
def phaseRdData (s : State) : Result :=
  if flagX s.opc then .next (nextReceive (rxAppend s.data s))
  else if s.seq.idx.toNat < s.cfg.rxcap then .next (nextReceive (storeByte s))
  else .fault .rxIndex

/-- One step of the engine while a command runs (R121). With no step running there is nothing to do (log entry 25). -/
def microStep (s : State) : Result :=
  match currentPrim s with
  | none => .next s
  | some p =>
    match s.seq.mph with
    | .data => .next (phaseData p s)
    | .t0 => .next (phaseT0 s)
    | .arm => .next (phaseArm p s)
    | .poll => .next (phasePoll p s)
    | .status => .next (phaseStatus p s)
    | .rdData => phaseRdData s
    | .lock0 => .next (lockupFirst s)
    | .lock1 => .next (lockupSecond s)
    | .done => .next (phaseDone s)

/-- One turn while a command runs: the engine's micro-phase, or another agent's step (R12, R121). -/
def turnStep (t : Turn) (s : State) : Result :=
  match t with
  | .engine => microStep s
  | .env e => .next (envStep e s)

/-- Run a command through the turns of the script, until it ends or the script does. Turns left over stay in the
script; with none left the command goes on at the next step of the machine (log entry 2). -/
def runTurns : List Turn → State → Result
  | [], s => .next { s with script := [] }
  | t :: ts, s =>
    if s.busy then
      match turnStep t s with
      | .next s' => runTurns ts s'
      | .fault r => .fault r
      | .refused r => .refused r
    else .next { s with script := t :: ts }

/-- A command starts only while `BUSY = 0` and `CMDERR = 0` (R27, R28, R87; log entry 13). -/
def admitCommand (k : State → Result) (s : State) : Result :=
  if s.busy then .refused .busy else if s.cmderr then .refused .commandError else k s

/-- Execution of a command that uses the bus: latch, begin at its first step, run (R87, R145, R150). -/
def runCommand (latch : State → State) (s : State) : Result :=
  admitCommand (fun s => runTurns s.script (latch s)) s

/-- Execution of a command that does not use the bus, in one engine step (R175; log entry 3). -/
def runLocal (o : Op) (k : State → Result) (s : State) : Result :=
  admitCommand (fun s => k (latchOpc o s)) s

end Sys2Proof.Machine
end

