-- ==== Sys2Proof/Machine/Buffer.lean ====
section
/-! DEFINITION. The commands that do not touch the bus (42_buffer_config R175 to R185). Each executes in one engine
step and appends one response byte (R115, R175). -/
namespace Sys2Proof.Machine

/-- `SETTO ms` (R176). -/
def execSetto (ms : Half) (s : State) : Result :=
  runLocal .setto (fun s => .next (respond 0 { s with timeout := ms })) s

/-- `AVAIL` (R178). -/
def execAvail (s : State) : Result := runLocal .avail (fun s => .next (respond s.avail s)) s

/-- `RECV` (R180, R181). -/
def execRecv (s : State) : Result :=
  runLocal .recv
    (fun s =>
      if s.avail = 0 then .next (respond 0 s)
      else if s.cursor.toNat < s.cfg.rxcap then
        .next (respond (s.rxbuf.read s.cursor.toNat) { s with cursor := s.cursor + 1, avail := s.avail - 1 })
      else .fault .rxIndex) s

/-- `GETD` (R183). -/
def execGetd (s : State) : Result := runLocal .getd (fun s => .next (respond s.data s)) s

end Sys2Proof.Machine
end

