-- ==== Sys2Proof/Machine/Control.lean ====
section
/-! DEFINITION. The control-register writes as instructions (30_encoding R95, R97). The engine performs them inside its
micro-phases; as instructions they are the write alone, and the engine's step adds the move to the next micro-phase. -/
namespace Sys2Proof.Machine

/-- `ARM_START` (R97). -/
def execArmStart (s : State) : Result := .next (ctrlWrite 0b10101 s)

/-- `ARM_SEND` (R97). -/
def execArmSend (s : State) : Result := .next (ctrlWrite 0b10001 s)

/-- `ARM_RECV_ACK` (R97). -/
def execArmRecvAck (s : State) : Result := .next (ctrlWrite 0b10011 s)

/-- `ARM_RECV_NACK` (R97). -/
def execArmRecvNack (s : State) : Result := .next (ctrlWrite 0b10001 s)

/-- `ARM_STOP` (R97). -/
def execArmStop (s : State) : Result := .next (ctrlWrite 0b11001 s)

/-- `CTRL_DISABLE` (R97, R197). -/
def execCtrlDisable (s : State) : Result := .next (ctrlWrite 0b00000 s)

/-- `CTRL_IDLE` (R97, R202). -/
def execCtrlIdle (s : State) : Result := .next (ctrlWrite 0b00011 s)

end Sys2Proof.Machine
end

