-- ==== Sys2Proof/Machine/Primitives.lean ====
section
/-! DEFINITION. The five primitives as host commands (40_primitives R130 to R146): each latches its operands, sets
`TSTEP` to its step number (R145, R233) and runs. -/
namespace Sys2Proof.Machine

/-- `START` (R130, R145): step 1. -/
def execStart (s : State) : Result := runCommand (fun s => beginStep .start .payload 0 (latchOpc .start s)) s

/-- `START.R` (R130, R145): step 4. The flag changes only the step number (R90). -/
def execStartR (s : State) : Result := runCommand (fun s => beginStep .repeatedStart .payload 0 (latchOpc .startR s)) s

/-- `SADDR.W a7` (R133, R145): step 2. -/
def execSaddrW (a7 : SlaveAddr) (s : State) : Result :=
  runCommand (fun s => beginStep .addressWrite .payload 0 (latchSla a7 (latchOpc .saddrW s))) s

/-- `SADDR.R a7` (R133, R145): step 5. -/
def execSaddrR (a7 : SlaveAddr) (s : State) : Result :=
  runCommand (fun s => beginStep .addressRead .payload 0 (latchSla a7 (latchOpc .saddrR s))) s

/-- `SBYTE b` (R136, R145): step 3. The byte is latched as a payload of one byte (log entry 10). -/
def execSbyte (b : Byte) (s : State) : Result :=
  runCommand (fun s => beginStep .dataSend .payload 0 (latchPayload [b] (latchOpc .sbyte s))) s

/-- `RBYTE.N` (R139, R145): step 6, not acknowledged. -/
def execRbyteN (s : State) : Result := runCommand (fun s => beginStep .dataReceive .payload 0 (latchOpc .rbyteN s)) s

/-- `RBYTE.A` (R139, R145): step 6, acknowledged. -/
def execRbyteA (s : State) : Result := runCommand (fun s => beginStep .dataReceive .payload 0 (latchOpc .rbyteA s)) s

/-- `STOP` (R142, R145): step 7. -/
def execStop (s : State) : Result := runCommand (fun s => beginStep .stop .payload 0 (latchOpc .stop s)) s

end Sys2Proof.Machine
end

