-- ==== Sys2Proof/Machine/Transactions.lean ====
section
/-! DEFINITION. The transactions (41_transactions R150 to R171): each latches its operands, a buffer-less read empties
the ReceiveBuffer (R159), and the run begins with `start` as step 1. -/
namespace Sys2Proof.Machine

/-- `WRITE8 sla, sel8, [payload]` (R152). -/
def execWrite8 (sla : SlaveAddr) (sel : Byte) (payload : List Byte) (s : State) : Result :=
  runCommand
    (fun s => beginStep .start .payload 0 (latchPayload payload (latchSel8 sel (latchSla sla (latchOpc .write8 s))))) s

/-- `WRITE16 sla, sel16, [payload]` (R152). -/
def execWrite16 (sla : SlaveAddr) (sel : Half) (payload : List Byte) (s : State) : Result :=
  runCommand
    (fun s => beginStep .start .payload 0 (latchPayload payload (latchSel16 sel (latchSla sla (latchOpc .write16 s))))) s

/-- `READ sla, cnt` (R158). -/
def execRead (sla : SlaveAddr) (cnt : Byte) (s : State) : Result :=
  runCommand (fun s => beginStep .start .payload 0 (clearReceive (latchCnt cnt (latchSla sla (latchOpc .read s))))) s

/-- `READ.X sla, cnt` (R158). -/
def execReadX (sla : SlaveAddr) (cnt : Byte) (s : State) : Result :=
  runCommand (fun s => beginStep .start .payload 0 (clearReceive (latchCnt cnt (latchSla sla (latchOpc .readX s))))) s

/-- `RREAD8 sla, sel8, cnt` (R164). -/
def execRread8 (sla : SlaveAddr) (sel : Byte) (cnt : Byte) (s : State) : Result :=
  runCommand
    (fun s =>
      beginStep .start .payload 0 (clearReceive (latchCnt cnt (latchSel8 sel (latchSla sla (latchOpc .rread8 s)))))) s

/-- `RREAD16 sla, sel16, cnt` (R164). -/
def execRread16 (sla : SlaveAddr) (sel : Half) (cnt : Byte) (s : State) : Result :=
  runCommand
    (fun s =>
      beginStep .start .payload 0 (clearReceive (latchCnt cnt (latchSel16 sel (latchSla sla (latchOpc .rread16 s)))))) s

/-- `RREAD8.X sla, sel8, cnt` (R164). -/
def execRread8X (sla : SlaveAddr) (sel : Byte) (cnt : Byte) (s : State) : Result :=
  runCommand
    (fun s =>
      beginStep .start .payload 0 (clearReceive (latchCnt cnt (latchSel8 sel (latchSla sla (latchOpc .rread8X s)))))) s

/-- `RREAD16.X sla, sel16, cnt` (R164). -/
def execRread16X (sla : SlaveAddr) (sel : Half) (cnt : Byte) (s : State) : Result :=
  runCommand
    (fun s =>
      beginStep .start .payload 0 (clearReceive (latchCnt cnt (latchSel16 sel (latchSla sla (latchOpc .rread16X s)))))) s

end Sys2Proof.Machine
end

