-- ==== Sys2Proof/Machine/Dispatch.lean ====
section
/-! DEFINITION. The dispatch: one arm per constructor of Instr, each one direct call of its meaning. -/
namespace Sys2Proof.Machine

/-- The meaning of an instruction in a state. -/
def exec (i : Instr) (s : State) : Host.Outcome State Fault Refusal :=
  match i with
  | .start => Sys2Proof.Machine.execStart s
  | .startR => Sys2Proof.Machine.execStartR s
  | .saddrW a7 => Sys2Proof.Machine.execSaddrW a7 s
  | .saddrR a7 => Sys2Proof.Machine.execSaddrR a7 s
  | .sbyte b => Sys2Proof.Machine.execSbyte b s
  | .rbyteN => Sys2Proof.Machine.execRbyteN s
  | .rbyteA => Sys2Proof.Machine.execRbyteA s
  | .stop => Sys2Proof.Machine.execStop s
  | .getd => Sys2Proof.Machine.execGetd s
  | .write8 sla sel payload => Sys2Proof.Machine.execWrite8 sla sel payload s
  | .write16 sla sel payload => Sys2Proof.Machine.execWrite16 sla sel payload s
  | .read sla cnt => Sys2Proof.Machine.execRead sla cnt s
  | .readX sla cnt => Sys2Proof.Machine.execReadX sla cnt s
  | .rread8 sla sel cnt => Sys2Proof.Machine.execRread8 sla sel cnt s
  | .rread16 sla sel cnt => Sys2Proof.Machine.execRread16 sla sel cnt s
  | .rread8X sla sel cnt => Sys2Proof.Machine.execRread8X sla sel cnt s
  | .rread16X sla sel cnt => Sys2Proof.Machine.execRread16X sla sel cnt s
  | .setto ms => Sys2Proof.Machine.execSetto ms s
  | .avail => Sys2Proof.Machine.execAvail s
  | .recv => Sys2Proof.Machine.execRecv s
  | .armStart => Sys2Proof.Machine.execArmStart s
  | .armSend => Sys2Proof.Machine.execArmSend s
  | .armRecvAck => Sys2Proof.Machine.execArmRecvAck s
  | .armRecvNack => Sys2Proof.Machine.execArmRecvNack s
  | .armStop => Sys2Proof.Machine.execArmStop s
  | .ctrlDisable => Sys2Proof.Machine.execCtrlDisable s
  | .ctrlIdle => Sys2Proof.Machine.execCtrlIdle s

end Sys2Proof.Machine
end

