-- ==== Sys2Proof/Machine/Fetch.lean ====
section
/-! DEFINITION. Fetching a command packet (30_encoding R87, R110), and placing an opcode-table word where the next step
runs it (log entry 21). -/
namespace Sys2Proof.Machine

/-- What the engine finds when no command runs (R87). -/
inductive Fetched where
  | idle
  | illegal
  | command (i : Instr) (rest : List Byte)
  deriving DecidableEq, Repr

/-- Look at `CMDQ`, unless `CMDERR` is set (R28, R87). -/
def fetch (s : State) : Fetched :=
  if s.cmderr then .idle
  else
    match decodePacket s.cmdq with
    | .wait => .idle
    | .reject _ => .illegal
    | .ok i rest => .command i rest

/-- An illegal command: `CMDERR <- 1` and nothing else (R110; log entry 12). -/
def commandError (s : State) : State := { s with cmderr := true }

/-- The packet of an opcode-table word: exactly its bytes, operand bytes of zeros included. -/
def tablePacket (nbits w : Nat) : List Byte :=
  match decodePacket (wordBytes nbits w) with
  | .ok i _ => encodePacket i
  | .wait => wordBytes nbits w
  | .reject _ => wordBytes nbits w

/-- `CMDQ` holds a packet and the engine looks at it at once: no command runs and the next turn is the engine's. -/
def placePacket (bs : List Byte) (s : State) : State :=
  { s with cmdq := bs, busy := false, cmderr := false, script := .engine :: s.script }

/-- The engine stands right before a control-register write: the running command, its step and the micro-phase that
performs the write (R97, R121, R230). -/
def placeWrite (o : Op) (t : TStep) (m : Mph) (s : State) : State :=
  { s with
    opc := o.byte
    busy := true
    seq := { tstep := t, mph := m, idx := 0, nstop := false, seg := .payload }
    script := .engine :: s.script }

/-- Place a control-register write, or nothing for an instruction that is none. -/
def placeCtrl (i : Option Instr) (s : State) : State :=
  match i with
  | some .armStart => placeWrite .start .start .arm s
  | some .armSend => placeWrite .sbyte .dataSend .arm s
  | some .armRecvAck => placeWrite .rbyteA .dataReceive .arm s
  | some .armRecvNack => placeWrite .rbyteN .dataReceive .arm s
  | some .armStop => placeWrite .stop .stop .arm s
  | some .ctrlDisable => placeWrite .start .start .lock0 s
  | some .ctrlIdle => placeWrite .start .start .lock1 s
  | _ => s

/-- Place an opcode-table word, in whichever of the two instruction streams it belongs to. -/
def placeWord (s : State) (nbits w : Nat) : State :=
  match decodeTableWord nbits w with
  | some i =>
    if i.isCommand then placePacket (tablePacket nbits w) s else placeCtrl (some i) s
  | none => placePacket (wordBytes nbits w) s

end Sys2Proof.Machine
end

