-- ==== Sys2Proof/Machine/Step.lean ====
section
/-! DEFINITION. One step of the machine: the next turn of the script, or the engine's where the script is empty. -/
namespace Sys2Proof.Machine

/-- The engine's turn: the running command's next micro-phase, or the fetch of a command and its execution (R87,
R121). -/
def engineTurn (s : State) : Host.Outcome State Fault Refusal :=
  if s.busy then microStep s
  else
    match fetch s with
    | .idle => .next s
    | .illegal => .next (commandError s)
    | .command i rest => exec i { s with cmdq := rest }

/-- One step (R12). -/
def step (s : State) : Host.Outcome State Fault Refusal :=
  match s.script with
  | [] => engineTurn s
  | .engine :: ts => engineTurn { s with script := ts }
  | .env e :: ts => .next (envStep e { s with script := ts })

/-- `s` with an opcode-table word where the next step runs it (log entry 21). -/
def State.withFetchWord (s : State) (nbits w : Nat) : State := placeWord s nbits w

end Sys2Proof.Machine
end

