-- ==== Sys2Proof/Safety.lean ====
section
/-! DEFINITION. What counts as a sound state of I2CM and the schedules the statements speak of: the idle state
(70_reset R270), the invariants the spec gives (10_state R44, R47, 20_memory R63, R79, 60_exceptions R230,
41_transactions R160) and the turns of a primitive with one answer of the bus side. -/
namespace Sys2Proof.Machine

/-- The controller is idle (R270). -/
abbrev Idle (s : State) : Prop :=
  ctrlEN s.ctrl = true ∧ ctrlSTA s.ctrl = false ∧ ctrlSTO s.ctrl = false ∧ ctrlCF s.ctrl = false ∧
    s.pend = .noAct ∧ s.held = false

/-- The two byte arrays are canonical and hold nothing outside their index spaces (R21, R43). -/
abbrev MemoryOk (s : State) : Prop :=
  s.rxbuf.wf = true ∧ s.rxbuf.below s.cfg.rxcap = true ∧ s.txbuf.wf = true ∧ s.txbuf.below 255 = true

/-- `CURSOR + AVAIL = TOTAL` and `TOTAL <= RXCAP` (R44, R47). -/
abbrev CountsOk (s : State) : Prop :=
  s.cursor.toNat + s.avail.toNat = s.total.toNat ∧ s.total.toNat ≤ s.cfg.rxcap

/-- The steps a kind of command goes through (R145, R152, R158, R164). -/
def stepOfKind (k : CmdKind) (t : TStep) : Bool :=
  match k with
  | .primitive => decide (t ≠ .noStep)
  | .write => decide (t = .start ∨ t = .addressWrite ∨ t = .dataSend ∨ t = .stop)
  | .read => decide (t = .start ∨ t = .addressRead ∨ t = .dataReceive ∨ t = .stop)
  | .rread => decide (t ≠ .noStep)

/-- A read: the kinds of command with a receive loop. -/
def isReadKind (k : CmdKind) : Bool :=
  match k with
  | .primitive => false
  | .write => false
  | .read => true
  | .rread => true

/-- The micro-phases each primitive goes through (R121): `M_DATA` only for a send, `M_STATUS` for all but `stop`,
`M_RDDATA` only in a read's receive loop. -/
def phaseOfPrim (s : State) (p : Prim) (m : Mph) : Bool :=
  match m with
  | .data => (dataOperand p s).isSome
  | .status => decide (p ≠ .stop)
  | .rdData => isReadKind (kindOf s.opc) && decide (s.seq.tstep = .dataReceive) && !s.seq.nstop
  | .t0 => true
  | .arm => true
  | .poll => true
  | .lock0 => true
  | .lock1 => true
  | .done => true

/-- `SEQ` while a command runs, and between commands (R22, R23, R24): a step of the command's kind; a nested stop only
inside a send (R127); loop indices below their bounds (R151). -/
abbrev SeqOk (s : State) : Prop :=
  if s.busy = false then s.seq = SeqPtr.rest
  else
    stepOfKind (kindOf s.opc) s.seq.tstep = true ∧
      (s.seq.nstop = true →
        s.seq.tstep = .addressWrite ∨ s.seq.tstep = .addressRead ∨ s.seq.tstep = .dataSend) ∧
      (∀ p ∈ currentPrim s, phaseOfPrim s p s.seq.mph = true) ∧
      (kindOf s.opc = .write → s.seq.tstep = .dataSend → s.seq.seg = .payload →
        s.seq.idx.toNat < s.txlen.toNat) ∧
      (isReadKind (kindOf s.opc) = true → s.seq.tstep = .dataReceive → s.seq.idx.toNat < countOf s)

/-- The ReceiveBuffer while a buffer-less read runs: empty before its receive loop (R159), `TOTAL = AVAIL = IDX` and
`CURSOR = 0` in it (R160). -/
abbrev ReceiveOk (s : State) : Prop :=
  s.busy = true → isReadKind (kindOf s.opc) = true → flagX s.opc = false →
    (s.seq.tstep = .dataReceive → s.total = s.seq.idx) ∧
      (s.seq.tstep ≠ .dataReceive → s.seq.tstep ≠ .stop → s.total = 0)

/-- `CTRL` and `PEND` while the engine polls: the action it armed is pending and `CTRL` is as the arm left it, or it
has completed (R79, R95, R194, R196). -/
abbrev PollOk (s : State) (p : Prim) : Prop :=
  (s.pend = actionOf (armWord p) ∧ s.ctrl = armedCtrl (armWord p)) ∨
    (s.pend = .noAct ∧
      (if p = .stop then s.ctrl = 0b00001 ∧ s.held = false else s.ctrl = armWord p))

/-- The bus controller's side (R79, R230, R247, R271): an action is pending only while the engine polls, or still after
a timeout until the first write of lockup recovery cancels it (R197, R227); disabled only between the two writes of
lockup recovery; idle when a primitive has ended with anything but `Ok`, and when a `stop` has ended. -/
abbrev CtrlOk (s : State) : Prop :=
  if s.busy = false then s.pend = .noAct ∧ ctrlEN s.ctrl = true
  else
    (s.seq.mph = .poll → ∀ p ∈ currentPrim s, PollOk s p) ∧
      (s.seq.mph ≠ .poll → s.seq.mph ≠ .lock0 → s.pend = .noAct) ∧
      (s.seq.mph = .lock1 → s.ctrl = 0 ∧ s.held = false) ∧
      (s.seq.mph ≠ .lock1 → ctrlEN s.ctrl = true) ∧
      (s.seq.mph = .done → s.outc ≠ .ok ∨ s.seq.tstep = .stop ∨ s.seq.nstop = true → Idle s)

/-- The lines between actions: the clock held low exactly while the bus is held, and both lines released when it is
not (R195, R218); the bit counter counts to 8. -/
abbrev LineOk (s : State) : Prop :=
  (s.pend = .noAct → s.line.phase = .idle ∧ s.line.sclO = !s.held ∧ (s.held = false → s.line.sdaO = true)) ∧
    s.line.bitn ≤ 8

/-- A sound state: what every step keeps. -/
structure Sound (s : State) : Prop where
  params : s.cfg.Ok
  memory : MemoryOk s
  counts : CountsOk s
  sequencer : SeqOk s
  receive : ReceiveOk s
  control : CtrlOk s
  lines : LineOk s

/-- A state that runs no command and can take one (R27, R28, R87). -/
abbrev Ready (s : State) : Prop := s.busy = false ∧ s.cmderr = false

/-- The engine has the next turn: the script says so, or has ended (R12). -/
abbrev EngineMoves (s : State) : Prop := s.script = [] ∨ s.script.head? = some .engine

/-- What no transaction and no primitive writes: the threshold, the command stream, the error flag, the parameters
(R38, R28, R58, R82). -/
abbrev ConfigUntouched (s t : State) : Prop :=
  t.timeout = s.timeout ∧ t.cmderr = s.cmderr ∧ t.cmdq = s.cmdq ∧ t.cfg = s.cfg

/-- The ReceiveBuffer and its counts are as before (R48). -/
abbrev ReceiveUntouched (s t : State) : Prop :=
  t.rxbuf = s.rxbuf ∧ t.avail = s.avail ∧ t.cursor = s.cursor ∧ t.total = s.total

/-- The payload latch is as before (R65). -/
abbrev PayloadUntouched (s t : State) : Prop := t.txbuf = s.txbuf ∧ t.txlen = s.txlen

/-- A turn that is not a reset. -/
def Turn.noReset (t : Turn) : Bool := decide (t ≠ .env .rst)

/-- No turn of the script is a reset. -/
def noResets (ts : List Turn) : Bool := ts.all Turn.noReset

/-- An event of the bus side (R190). -/
def EnvEvent.isBus (e : EnvEvent) : Bool :=
  match e with
  | .done _ _ _ => true
  | .sto => true
  | .nominal _ _ => true
  | .line _ _ => true
  | .tick => false
  | .send _ => false
  | .takeRsp => false
  | .takeRx => false
  | .rst => false

/-- `k` turns of the engine. -/
def engineTurns (k : Nat) : List Turn := List.replicate k .engine

/-- `n` ticks of the clock. -/
def ticks (n : Nat) : List Turn := List.replicate n (.env .tick)

/-- The turns of `start` or `receiveByte` up to the classification, with one answer of the bus side: `M_T0`, `M_ARM`,
the answer, `M_POLL`, `M_STATUS` (R121). -/
def shortTurns (a : EnvEvent) : List Turn := engineTurns 2 ++ .env a :: engineTurns 2

/-- The turns of a send up to the classification: `M_DATA` first (R121). -/
def sendTurns (a : EnvEvent) : List Turn := engineTurns 3 ++ .env a :: engineTurns 2

/-- The turns of `stop` up to the completed poll (R121, R142). -/
def stopTurns (a : EnvEvent) : List Turn := engineTurns 2 ++ .env a :: engineTurns 1

/-- The turns of the receive loop on the nominal bus: each byte received and stored (R158, R160). -/
def receiveLoop : List Byte → List Turn
  | [] => []
  | b :: bs => shortTurns (.nominal true b) ++ engineTurns 2 ++ receiveLoop bs

/-- The turns of `k` acknowledged sends on the nominal bus. -/
def sendLoop : Nat → List Turn
  | 0 => []
  | k + 1 => sendTurns (.nominal true 0) ++ engineTurns 1 ++ sendLoop k

/-- `start` on the nominal bus, its outcome yielded. -/
def nominalStart : List Turn := shortTurns (.nominal true 0) ++ engineTurns 1

/-- `stop` on the nominal bus, its outcome yielded. -/
def nominalStop : List Turn := stopTurns (.nominal true 0) ++ engineTurns 1

/-- The primitive a primitive command runs, with its mode (R145, R233). -/
def primitiveOf : Instr → Option (TStep × Prim)
  | .start => some (.start, .start)
  | .startR => some (.repeatedStart, .start)
  | .saddrW _ => some (.addressWrite, .addr false)
  | .saddrR _ => some (.addressRead, .addr true)
  | .sbyte _ => some (.dataSend, .byte)
  | .rbyteN => some (.dataReceive, .recv false)
  | .rbyteA => some (.dataReceive, .recv true)
  | .stop => some (.stop, .stop)
  | .getd => none
  | .write8 _ _ _ => none
  | .write16 _ _ _ => none
  | .read _ _ => none
  | .readX _ _ => none
  | .rread8 _ _ _ => none
  | .rread16 _ _ _ => none
  | .rread8X _ _ _ => none
  | .rread16X _ _ _ => none
  | .setto _ => none
  | .avail => none
  | .recv => none
  | .armStart => none
  | .armSend => none
  | .armRecvAck => none
  | .armRecvNack => none
  | .armStop => none
  | .ctrlDisable => none
  | .ctrlIdle => none

/-- What `M_DATA` of a primitive command writes to the data register (R133, R136). -/
def dataEvents : Instr → List Ev
  | .saddrW a => [.data (addressByte a false)]
  | .saddrR a => [.data (addressByte a true)]
  | .sbyte b => [.data b]
  | .start => []
  | .startR => []
  | .rbyteN => []
  | .rbyteA => []
  | .stop => []
  | .getd => []
  | .write8 _ _ _ => []
  | .write16 _ _ _ => []
  | .read _ _ => []
  | .readX _ _ => []
  | .rread8 _ _ _ => []
  | .rread16 _ _ _ => []
  | .rread8X _ _ _ => []
  | .rread16X _ _ _ => []
  | .setto _ => []
  | .avail => []
  | .recv => []
  | .armStart => []
  | .armSend => []
  | .armRecvAck => []
  | .armRecvNack => []
  | .armStop => []
  | .ctrlDisable => []
  | .ctrlIdle => []

/-- A transaction: `WRITE`, `READ`, `RREAD` in all their forms (R150). -/
def isTransaction : Instr → Bool
  | .write8 _ _ _ => true
  | .write16 _ _ _ => true
  | .read _ _ => true
  | .readX _ _ => true
  | .rread8 _ _ _ => true
  | .rread16 _ _ _ => true
  | .rread8X _ _ _ => true
  | .rread16X _ _ _ => true
  | .start => false
  | .startR => false
  | .saddrW _ => false
  | .saddrR _ => false
  | .sbyte _ => false
  | .rbyteN => false
  | .rbyteA => false
  | .stop => false
  | .getd => false
  | .setto _ => false
  | .avail => false
  | .recv => false
  | .armStart => false
  | .armSend => false
  | .armRecvAck => false
  | .armRecvNack => false
  | .armStop => false
  | .ctrlDisable => false
  | .ctrlIdle => false

/-- The turns of a primitive with one answer of the bus side, up to the classification (up to the completed poll for
`stop`) (R121). -/
def primTurns (p : Prim) (a : EnvEvent) : List Turn :=
  match p with
  | .start => shortTurns a
  | .addr _ => sendTurns a
  | .byte => sendTurns a
  | .recv _ => shortTurns a
  | .stop => stopTurns a

/-- The turns of a primitive up to and including its arm (R121). -/
def armTurns (p : Prim) : List Turn :=
  match p with
  | .start => engineTurns 2
  | .addr _ => engineTurns 3
  | .byte => engineTurns 3
  | .recv _ => engineTurns 2
  | .stop => engineTurns 2

/-- The engine's writes in a trace: of `CTRL` and of `DATA` (R53, R166). -/
def engineWrites (l : List Ev) : List Ev :=
  l.filter fun e =>
    match e with
    | .ctrl _ => true
    | .data _ => true
    | .done _ _ => false
    | .sto => false
    | .rx _ => false
    | .rsp _ => false

/-- The engine's writes of the sends of some bytes: data, then the send arm (R133, R136). -/
def sendWrites (bs : List Byte) : List Ev := bs.flatMap fun b => [.data b, .ctrl 0b10001]

/-- The engine's writes of `n` receives: all but the last acknowledged (R161, R166). -/
def receiveWrites (n : Nat) : List Ev := List.replicate (n - 1) (.ctrl 0b10011) ++ [.ctrl 0b10001]

/-- The first address a transaction sends and its direction: write for `WRITE` and `RREAD`, read for `READ` (R152, R158,
R164). -/
def firstAddress : Instr → Option (SlaveAddr × Bool)
  | .write8 a _ _ => some (a, false)
  | .write16 a _ _ => some (a, false)
  | .read a _ => some (a, true)
  | .readX a _ => some (a, true)
  | .rread8 a _ _ => some (a, false)
  | .rread16 a _ _ => some (a, false)
  | .rread8X a _ _ => some (a, false)
  | .rread16X a _ _ => some (a, false)
  | .start => none
  | .startR => none
  | .saddrW _ => none
  | .saddrR _ => none
  | .sbyte _ => none
  | .rbyteN => none
  | .rbyteA => none
  | .stop => none
  | .getd => none
  | .setto _ => none
  | .avail => none
  | .recv => none
  | .armStart => none
  | .armSend => none
  | .armRecvAck => none
  | .armRecvNack => none
  | .armStop => none
  | .ctrlDisable => none
  | .ctrlIdle => none

/-- The requested count of a read and whether its bytes go to the caller's buffer (R157). -/
def readOperands : Instr → Option (Byte × Bool)
  | .read _ c => some (c, false)
  | .readX _ c => some (c, true)
  | .rread8 _ _ c => some (c, false)
  | .rread16 _ _ c => some (c, false)
  | .rread8X _ _ c => some (c, true)
  | .rread16X _ _ c => some (c, true)
  | .start => none
  | .startR => none
  | .saddrW _ => none
  | .saddrR _ => none
  | .sbyte _ => none
  | .rbyteN => none
  | .rbyteA => none
  | .stop => none
  | .getd => none
  | .write8 _ _ _ => none
  | .write16 _ _ _ => none
  | .setto _ => none
  | .avail => none
  | .recv => none
  | .armStart => none
  | .armSend => none
  | .armRecvAck => none
  | .armRecvNack => none
  | .armStop => none
  | .ctrlDisable => none
  | .ctrlIdle => none

/-- The turns of a read on the nominal bus up to its first receive (R158, R164). -/
def readTurns : Instr → List Turn
  | .read _ _ => nominalStart ++ sendLoop 1
  | .readX _ _ => nominalStart ++ sendLoop 1
  | .rread8 _ _ _ => nominalStart ++ sendLoop 2 ++ nominalStart ++ sendLoop 1
  | .rread8X _ _ _ => nominalStart ++ sendLoop 2 ++ nominalStart ++ sendLoop 1
  | .rread16 _ _ _ => nominalStart ++ sendLoop 3 ++ nominalStart ++ sendLoop 1
  | .rread16X _ _ _ => nominalStart ++ sendLoop 3 ++ nominalStart ++ sendLoop 1
  | .start => []
  | .startR => []
  | .saddrW _ => []
  | .saddrR _ => []
  | .sbyte _ => []
  | .rbyteN => []
  | .rbyteA => []
  | .stop => []
  | .getd => []
  | .write8 _ _ _ => []
  | .write16 _ _ _ => []
  | .setto _ => []
  | .avail => []
  | .recv => []
  | .armStart => []
  | .armSend => []
  | .armRecvAck => []
  | .armRecvNack => []
  | .armStop => []
  | .ctrlDisable => []
  | .ctrlIdle => []

/-- The ReceiveBuffer after a buffer-less read that stored `bs` (R159, R160). -/
abbrev Stored (s t : State) (bs : List Byte) : Prop :=
  t.avail.toNat = bs.length ∧ t.total.toNat = bs.length ∧ t.cursor = 0 ∧
    ∀ k, t.rxbuf.read k = if k < bs.length then bs.getD k 0 else s.rxbuf.read k

/-- A command that has ended with return code `c`, the controller idle with `CTRL = w`, the turns `rest` still to come
(R115, R151, R168). -/
abbrev EndedIdle (s t : State) (c : Byte) (w : Ctrl) (rest : List Turn) : Prop :=
  t.busy = false ∧ t.rc = c ∧ t.rspq = s.rspq ++ [c] ∧ Idle t ∧ t.ctrl = w ∧ t.script = rest ∧ ConfigUntouched s t

/-- A transaction that ended at an address nobody acknowledged, `d` its direction: a buffer-less read has emptied the
ReceiveBuffer, the others have not touched it (R151, R159, R168). -/
abbrev AddressRefused (i : Instr) (s t : State) (d : Bool) (rest : List Turn) : Prop :=
  EndedIdle s t (if d then s.cfg.stMrSlaNack else s.cfg.stMtSlaNack) 0b00001 rest ∧ t.rxout = s.rxout ∧
    if (readOperands i).any (fun o => !o.2) then Stored s t [] else ReceiveUntouched s t

/-- A read that failed with return code `c` after storing `bs`, in the caller's buffer or in the ReceiveBuffer (R160). -/
abbrev ReadFailed (s t : State) (x : Bool) (bs : List Byte) (c : Byte) (rest : List Turn) : Prop :=
  EndedIdle s t c 0b00011 rest ∧
    if x then t.rxout = s.rxout ++ bs ∧ ReceiveUntouched s t else t.rxout = s.rxout ∧ Stored s t bs

/-- A run of the line level: every other device's release of the two lines, turn by turn. -/
def lineRun : List (Bool × Bool) → State → State
  | [], s => s
  | (a, b) :: ls, s => lineRun ls (lineStep a b s)

end Sys2Proof.Machine
end

