-- ==== Sys2Proof/Certificates/Slice0/Obligations.lean ====
section
/-! DEFINITION. The statements for the provers, each from the spec's numbered rules. A statement that rests on a choice
of the model says so and names the log entry. -/
open Sys2Proof Sys2Proof.Machine

/-! ### Encodings -/

/-- R86, R88, R97: decoding the words of a well-formed instruction gives it back, for every instruction and every
operand; the two meanings of `0b10001` are told apart by the direction (R97). -/
def Obligations.DecodeOfEncodeIsTheInstruction : Prop :=
  ∀ i : Instr, i.wf = true → decode (decide (i = .armRecvNack)) (encode i) = some i

/-- R86, R87, R109: the packet decoder takes an instruction from the front of the stream exactly when that instruction's
packet stands there, and every instruction it takes is a well-formed host command. -/
def Obligations.DecoderTakesExactlyThePacketsOfCommands : Prop :=
  ∀ (bs rest : List Byte) (i : Instr), decodePacket bs = .ok i rest ↔
    (i.wf = true ∧ i.isCommand = true ∧ bs = encodePacket i ++ rest)

/-- R89, R112: a first byte is legal exactly when one of the twelve match/mask rows selects it; no byte is selected by
two; the legal bytes are the twenty R112 lists. -/
def Obligations.FirstByteIsLegalExactlyWhenARowSelectsIt : Prop :=
  (∀ b : Byte, (opOf b).isSome = familyRows.any fun row => familySelects row b) ∧
    (∀ b : Byte, (familyRows.filter fun row => familySelects row b).length ≤ 1) ∧
    ((List.range 256).filter fun n => (opOf (BitVec.ofNat 8 n)).isSome) =
      [0x10, 0x11, 0x20, 0x21, 0x30, 0x40, 0x41, 0x50, 0x60, 0x80, 0x81, 0x90, 0x92, 0xA0, 0xA1, 0xA2, 0xA3, 0xC0,
        0xD0, 0xE0]

/-- R86, R88, R97, R109: words written out by hand from the encodings, at least one for each of the twelve commands and
for each control-register pattern, decode to what they stand for; an incomplete packet waits, and an address operand
with bit 7 set is rejected. -/
def Obligations.WordsWrittenFromTheSpecDecodeRight : Prop :=
  decodePacket [0x11] = .ok .startR [] ∧
    decodePacket [0x21, 0x7F] = .ok (.saddrR 0x7F) [] ∧
    decodePacket [0x30, 0xFF] = .ok (.sbyte 0xFF) [] ∧
    decodePacket [0x40] = .ok .rbyteN [] ∧
    decodePacket [0x41] = .ok .rbyteA [] ∧
    decodePacket [0x50] = .ok .stop [] ∧
    decodePacket [0x60] = .ok .getd [] ∧
    decodePacket [0x81, 0x50, 0x12, 0x34, 0x02, 0xBE, 0xEF] = .ok (.write16 0x50 0x1234 [0xBE, 0xEF]) [] ∧
    decodePacket [0xA3, 0x50, 0x12, 0x34, 0x03] = .ok (.rread16X 0x50 0x1234 3) [] ∧
    decodePacket [0x92, 0x48, 0x02, 0xD0] = .ok (.readX 0x48 2) [0xD0] ∧
    decodePacket [0xC0, 0x00, 0x64] = .ok (.setto 100) [] ∧
    decodePacket [0xD0] = .ok .avail [] ∧
    decodePacket [0xE0] = .ok .recv [] ∧
    decodePacket [0x80, 0x50, 0x05, 0x03, 0x10, 0x20] = .wait ∧
    decodePacket [0x20, 0xD0] = .reject (.reservedOperandBit 0xD0) ∧
    decodeCtrl false 0b10101 = some .armStart ∧
    decodeCtrl false 0b10001 = some .armSend ∧
    decodeCtrl true 0b10011 = some .armRecvAck ∧
    decodeCtrl true 0b10001 = some .armRecvNack ∧
    decodeCtrl false 0b11001 = some .armStop ∧
    decodeCtrl false 0b00000 = some .ctrlDisable ∧
    decodeCtrl false 0b00011 = some .ctrlIdle

/-! ### Fetch -/

/-- A step runs the decoded instruction: with no command running, no command error, the engine's turn (given by the
script or by its end) and a whole legal packet at the front of `CMDQ`, the step is the execution of that instruction
in the state without the packet (R87). -/
def Obligations.StepRunsTheDecodedInstruction : Prop :=
  ∀ (s : State) (i : Instr) (rest : List Byte), s.busy = false → s.cmderr = false →
    decodePacket s.cmdq = .ok i rest →
    (s.script = [] → step s = exec i { s with cmdq := rest }) ∧
      (∀ ts, s.script = .engine :: ts → step s = exec i { s with cmdq := rest, script := ts })

/-- While a command runs, the engine's step at `M_ARM` or in lockup recovery executes the control-register write of R97
and moves `MPH` on: the arm of the running primitive, then the two writes of `lockup()` (R121, R230). -/
def Obligations.EngineExecutesTheControlWrites : Prop :=
  ∀ (s : State) (p : Prim) (ts : List Turn), s.busy = true → currentPrim s = some p → s.script = .engine :: ts →
    (s.seq.mph = .arm → ∃ t, exec (armInstr p) { s with script := ts } = .next t ∧
      step s = .next { t with seq := { t.seq with mph := .poll } }) ∧
    (s.seq.mph = .lock0 → ∃ t, exec .ctrlDisable { s with script := ts } = .next t ∧
      step s = .next { t with seq := { t.seq with mph := .lock1 } }) ∧
    (s.seq.mph = .lock1 → ∃ t, exec .ctrlIdle { s with script := ts } = .next t ∧
      step s = .next { t with seq := { t.seq with mph := .done } })

/-- R110, R87: on an illegal command the engine's turn sets `CMDERR` and changes nothing else: not `BUSY`, not `CMDQ`, not
the registers, and it gives no response; while a packet is not complete it waits and changes nothing. That an illegal
command is a next state with this effect, and not a refusal of the model as R110's last sentence and
93_implementation_defined U9 advise, is log entry 12. -/
def Obligations.IllegalCommandSetsOnlyTheErrorFlag : Prop :=
  ∀ s : State, s.busy = false → s.cmderr = false → EngineMoves s →
    (∀ r, decodePacket s.cmdq = .reject r → step s = .next { s with cmderr := true, script := s.script.tail }) ∧
      (decodePacket s.cmdq = .wait → step s = .next { s with script := s.script.tail })

/-- R108, R109: a first byte no row selects is illegal whatever follows; a complete packet of `SADDR`, `READ`, `RREAD` or
`WRITE` with bit 7 of its address operand set is illegal, whatever the other operands. -/
def Obligations.ReservedBytesAreRejected : Prop :=
  (∀ (b : Byte) (rest : List Byte), (familyRows.any fun row => familySelects row b) = false →
    decodePacket (b :: rest) = .reject (.reservedOpcode b)) ∧
  (∀ (op a : Byte) (rest : List Byte), a.getLsbD 7 = true → op = 0x20 ∨ op = 0x21 →
    decodePacket (op :: a :: rest) = .reject (.reservedOperandBit a)) ∧
  (∀ (op a c : Byte) (rest : List Byte), a.getLsbD 7 = true → op = 0x90 ∨ op = 0x92 →
    decodePacket (op :: a :: c :: rest) = .reject (.reservedOperandBit a)) ∧
  (∀ (op a e c : Byte) (rest : List Byte), a.getLsbD 7 = true → op = 0xA0 ∨ op = 0xA2 →
    decodePacket (op :: a :: e :: c :: rest) = .reject (.reservedOperandBit a)) ∧
  (∀ (op a eh el c : Byte) (rest : List Byte), a.getLsbD 7 = true → op = 0xA1 ∨ op = 0xA3 →
    decodePacket (op :: a :: eh :: el :: c :: rest) = .reject (.reservedOperandBit a)) ∧
  (∀ (a e n : Byte) (rest : List Byte), a.getLsbD 7 = true → n.toNat ≤ rest.length →
    decodePacket (0x80 :: a :: e :: n :: rest) = .reject (.reservedOperandBit a)) ∧
  (∀ (a eh el n : Byte) (rest : List Byte), a.getLsbD 7 = true → n.toNat ≤ rest.length →
    decodePacket (0x81 :: a :: eh :: el :: n :: rest) = .reject (.reservedOperandBit a))

/-- R28: `CMDERR` is cleared only by reset; while it is 1 and no command runs, the engine's turn changes nothing at all: it
takes no byte, gives no response and writes no register. -/
def Obligations.CommandErrorIsStickyUntilReset : Prop :=
  ∀ s t : State, s.cmderr = true → step s = .next t →
    (s.script.head? ≠ some (.env .rst) → t.cmderr = true) ∧
      (s.busy = false → EngineMoves s → t = { s with script := s.script.tail })

/-- R27, R82: while `BUSY = 1` the engine takes no byte from `CMDQ`. -/
def Obligations.BusyEngineTakesNoCommandByte : Prop :=
  ∀ s t : State, s.busy = true → EngineMoves s → step s = .next t →
    t.cmdq = s.cmdq

/-- The model refuses a host command executed while another runs or while `CMDERR = 1` (93_implementation_defined U1:
`refuse`; R28; log entry 13). `step` never executes one so. -/
def Obligations.CommandIsRefusedWhileBusyOrInError : Prop :=
  ∀ (i : Instr) (s : State), i.isCommand = true →
    (s.busy = true → exec i s = .refused .busy) ∧
      (s.busy = false → s.cmderr = true → exec i s = .refused .commandError)

/-! ### The whole machine -/

/-- R57, R270, R271 (a), R265: the reset state is sound, the controller is idle and both lines are released. -/
def Obligations.ResetStateIsSound : Prop :=
  Sound State.reset ∧ Idle State.reset ∧ State.reset.line.sclO = true ∧ State.reset.line.sdaO = true

/-- R47, R79, R160, R230, R271 and the positions of `SEQ` (R22 to R24): every step keeps a sound state sound, from
every sound state, whatever turns come. -/
def Obligations.EveryStepKeepsTheStateSound : Prop :=
  ∀ s t : State, Sound s → step s = .next t → Sound t

/-- From a sound state the machine never stops, and stays sound: no fault and no refusal, now or at any later step
(R63: an out-of-range index cannot occur). -/
def Obligations.SoundStateNeverStops : Prop :=
  ∀ s : State, Sound s → ∃ t, step s = .next t ∧ Sound t

/-- The two byte arrays keep their canonical form and stay inside their index spaces, from every state in which they
do (R21, R43; the form is the model's, log entry 5). -/
def Obligations.EveryStepKeepsTheByteArraysCanonical : Prop :=
  ∀ s t : State, MemoryOk s → step s = .next t → MemoryOk t

/-- R58, R6: no step changes a parameter (the model carries them in State, log entry 4). -/
def Obligations.ParametersNeverChange : Prop :=
  ∀ s t : State, step s = .next t → t.cfg = s.cfg

/-- R38, R277: no instruction but `SETTO` changes the threshold, under any schedule without a reset. -/
def Obligations.OnlySettoChangesTheThreshold : Prop :=
  ∀ (i : Instr) (s t : State), (∀ ms, i ≠ .setto ms) → noResets s.script = true → exec i s = .next t →
    t.timeout = s.timeout

/-- R48: an instruction that is no buffer-less read and not `RECV` leaves the ReceiveBuffer and its three counts
unchanged, under any schedule without a reset: a write, a read into the caller's buffer, a primitive, a lockup
recovery. -/
def Obligations.OnlyBufferReadsAndRecvTouchTheReceiveBuffer : Prop :=
  ∀ (i : Instr) (s t : State), (∀ a c, i ≠ .read a c) → (∀ a e c, i ≠ .rread8 a e c) →
    (∀ a e c, i ≠ .rread16 a e c) → i ≠ .recv → noResets s.script = true → exec i s = .next t →
    (∀ k, t.rxbuf.read k = s.rxbuf.read k) ∧ t.avail = s.avail ∧ t.cursor = s.cursor ∧ t.total = s.total

/-- R26, R82, R56, R115: under any schedule without a reset, an instruction removes no byte from `CMDQ` (the host may
append), leaves `CMDERR`, and one that is no read into the caller's buffer appends nothing to `RXOUT` (the host may
take). A command that still runs has appended no response; one that has ended has appended exactly one, last: its return
code, where it is a primitive or a transaction. A control-register write appends none. -/
def Obligations.StreamsChangeOnlyAsTheRulesSay : Prop :=
  ∀ (i : Instr) (s t : State), noResets s.script = true → exec i s = .next t →
    (∃ l, t.cmdq = s.cmdq ++ l) ∧ t.cmderr = s.cmderr ∧
      ((∀ a c, i ≠ .readX a c) → (∀ a e c, i ≠ .rread8X a e c) → (∀ a e c, i ≠ .rread16X a e c) →
        ∃ k, t.rxout = s.rxout.drop k) ∧
      (i.isCommand = true → t.busy = true → ∃ k, t.rspq = s.rspq.drop k) ∧
      (i.isCommand = true → t.busy = false → ∃ k b, t.rspq = s.rspq.drop k ++ [b] ∧
        ((∀ ms, i ≠ .setto ms) → i ≠ .avail → i ≠ .recv → i ≠ .getd → b = t.rc)) ∧
      (i.isCommand = false → t.rspq = s.rspq)

/-- R65: an instruction that latches no payload leaves `TXBUF` and `TXLEN` unchanged (the model latches `SBYTE`'s byte
as a payload, log entry 10). -/
def Obligations.OnlyPayloadCommandsTouchThePayloadLatch : Prop :=
  ∀ (i : Instr) (s t : State), (∀ a e d, i ≠ .write8 a e d) → (∀ a e d, i ≠ .write16 a e d) → (∀ b, i ≠ .sbyte b) →
    noResets s.script = true → exec i s = .next t →
    (∀ k, t.txbuf.read k = s.txbuf.read k) ∧ t.txlen = s.txlen

/-- R271 (c), (d), R168: when a transaction or `STOP` has ended, the controller is idle, with any return code and under
any schedule. -/
def Obligations.ControllerIsIdleAfterATransactionOrStop : Prop :=
  ∀ (i : Instr) (s t : State), Sound s → isTransaction i = true ∨ i = .stop → exec i s = .next t → t.busy = false →
    Idle t

/-- R131, R145, R233, R247: under any schedule without a reset, `START` or `START.R` that has ended either succeeded
(return code 0, a start status saved, `CTRL = 0b10101`) or left the controller idle after a lockup reset, with its step
code, 1 or 4 (only if a timeout is configured), or the saved status as its return code. -/
def Obligations.StartEndsInOneOfItsOutcomes : Prop :=
  ∀ s t : State, Sound s → noResets s.script = true → ∀ row ∈ [(Instr.start, (1 : Byte)), (.startR, 4)],
    exec row.1 s = .next t → t.busy = false →
    (t.rc = 0 ∧ t.ctrl = 0b10101 ∧ (t.saved = t.cfg.stStart ∨ t.saved = t.cfg.stRepStart)) ∨
      (Idle t ∧ t.ctrl = 0b00011 ∧ ((t.rc = row.2 ∧ s.timeout ≠ 0) ∨
        (t.rc = t.saved ∧ t.saved ≠ t.cfg.stStart ∧ t.saved ≠ t.cfg.stRepStart)))

/-! ### The control register -/

/-- R95: what an engine write does, for every 5-bit value: a disable clears everything; otherwise `EN`, `EA`, `STA`,
`STO` are taken from the value, and bit 4 decides between an arm, which clears `CF` and launches the action of R192,
and a write that leaves `CF` and `PEND` unchanged. -/
def Obligations.ControlWriteFollowsItsBits : Prop :=
  ∀ (w : Ctrl) (s : State),
    (w.getLsbD 0 = false →
      (ctrlWrite w s).ctrl = 0 ∧ (ctrlWrite w s).pend = .noAct ∧ (ctrlWrite w s).held = false ∧
        (ctrlWrite w s).mode = .noMode ∧ (ctrlWrite w s).line.sclO = true ∧ (ctrlWrite w s).line.sdaO = true) ∧
    (w.getLsbD 0 = true →
      ctrlEN (ctrlWrite w s).ctrl = true ∧ ctrlEA (ctrlWrite w s).ctrl = w.getLsbD 1 ∧
        ctrlSTA (ctrlWrite w s).ctrl = w.getLsbD 2 ∧ ctrlSTO (ctrlWrite w s).ctrl = w.getLsbD 3 ∧
        (w.getLsbD 4 = true → ctrlCF (ctrlWrite w s).ctrl = false ∧ (ctrlWrite w s).pend = actionOf w) ∧
        (w.getLsbD 4 = false →
          ctrlCF (ctrlWrite w s).ctrl = ctrlCF s.ctrl ∧ (ctrlWrite w s).pend = s.pend ∧
            (ctrlWrite w s).held = s.held ∧ (ctrlWrite w s).mode = s.mode)) ∧
    (ctrlWrite w s).data = s.data

/-- R97, R95, R192: the five arms, in every state: `CTRL` after the write, the launched action, one event in the trace,
`STATUS` a free byte (log entry 6), the line level at the start of the action (log entry 15), and nothing else changed. -/
def Obligations.ArmWritesLaunchTheirActions : Prop :=
  ∀ s : State, ∀ row ∈ [(Instr.armStart, (0b10101 : Ctrl), (0b00101 : Ctrl), Action.startAct),
      (.armSend, 0b10001, 0b00001, .xferAct), (.armRecvAck, 0b10011, 0b00011, .xferAct),
      (.armRecvNack, 0b10001, 0b00001, .xferAct), (.armStop, 0b11001, 0b01001, .stopAct)],
    exec row.1 s = .next
      { s with
        ctrl := row.2.2.1, pend := row.2.2.2, status := Config.freeByte s.free, free := s.free + 1,
        ev := s.ev ++ [.ctrl row.2.1], line := { s.line with phase := .idle, shift := 0, bitn := 0 } }

/-- R97, R197, R202: the disable and the idle write, in every state. That `STATUS` is the next free byte is log entry 6;
that the line level after a disable has seen no sample and takes the bus as free is log entry 16 (the spec gives the
release of both lines and the cleared shift register and counter, R217). -/
def Obligations.DisableAndIdleWritesDoWhatTheyName : Prop :=
  ∀ s : State,
    exec .ctrlDisable s = .next
      { s with
        ctrl := 0, pend := .noAct, held := false, mode := .noMode, status := Config.freeByte s.free,
        free := s.free + 1, ev := s.ev ++ [.ctrl 0], line := Line.released } ∧
    exec .ctrlIdle s = .next
      { s with ctrl := (s.ctrl &&& 0b10000) ||| 0b00011, ev := s.ev ++ [.ctrl 0b00011] }

/-- R230, R231, R266: after the two writes of `lockup()`, `CTRL = 0b00011`, nothing is pending, the bus is not held, `MODE`
is `NONE`, both lines are released and the trace has gained the two writes; nothing else of the state has changed but
`STATUS`, which is unspecified, and the model's counter of free values. -/
def Obligations.LockupRestoresTheIdleState : Prop :=
  ∀ s u t : State, exec .ctrlDisable s = .next u → exec .ctrlIdle u = .next t →
    Idle t ∧ ∃ st l n, l.sclO = true ∧ l.sdaO = true ∧
      t = { s with
        ctrl := 0b00011, pend := .noAct, held := false, mode := .noMode, status := st, line := l, free := n,
        ev := s.ev ++ [.ctrl 0b00000, .ctrl 0b00011] }

/-! ### The bus side -/

/-- R194, R199, R200: the completion of a pending start, transfer or `BadAct`, with any status and byte: `STATUS`, `CF`,
`PEND`, and `HELD` and `MODE` by the table, `DATA` only where a byte is received. That the turn says (its flag `r`)
whether `BadAct` or a transfer with no defined direction receives is log entry 11; that a transfer that sends
by R193 never does, out of sequence too, is log entry 33. -/
def Obligations.CompletionFollowsTheContract : Prop :=
  ∀ (s : State) (st b : Byte) (r : Bool), s.cfg.Ok → ctrlEN s.ctrl = true →
    s.pend = .startAct ∨ s.pend = .xferAct ∨ s.pend = .badAct →
    (busDone st b r s).status = st ∧ ctrlCF (busDone st b r s).ctrl = true ∧ (busDone st b r s).pend = .noAct ∧
      (busDone st b r s).data = (if receivesByte s r then b else s.data) ∧
      (st = s.cfg.stStart ∨ st = s.cfg.stRepStart →
        (busDone st b r s).held = true ∧ (busDone st b r s).mode = .noMode) ∧
      (st = s.cfg.stMtSlaAck ∨ st = s.cfg.stMtSlaNack →
        (busDone st b r s).held = s.held ∧ (busDone st b r s).mode = .mt) ∧
      (st = s.cfg.stMrSlaAck ∨ st = s.cfg.stMrSlaNack →
        (busDone st b r s).held = s.held ∧ (busDone st b r s).mode = .mr) ∧
      (st = s.cfg.stLostArb → (busDone st b r s).held = false ∧ (busDone st b r s).mode = .noMode) ∧
      (st ∉ [s.cfg.stStart, s.cfg.stRepStart, s.cfg.stMtSlaAck, s.cfg.stMtSlaNack, s.cfg.stMrSlaAck,
          s.cfg.stMrSlaNack, s.cfg.stLostArb] →
        (busDone st b r s).held = s.held ∧ (busDone st b r s).mode = s.mode)

/-- R196, R218: the completion of a stop: `STO` cleared, `CF` unchanged, nothing pending, the bus released, both lines
released (R218; that a completion at register level moves the lines is log entry 26). `STATUS` becomes unspecified (a
free byte, log entry 6), of which nothing is said. -/
def Obligations.StopCompletionReleasesTheBus : Prop :=
  ∀ s : State, ctrlEN s.ctrl = true → s.pend = .stopAct →
    ctrlSTO (busStop s).ctrl = false ∧ ctrlCF (busStop s).ctrl = ctrlCF s.ctrl ∧
      ctrlEN (busStop s).ctrl = true ∧ (busStop s).pend = .noAct ∧ (busStop s).held = false ∧
      (busStop s).mode = .noMode ∧ (busStop s).data = s.data ∧
      (busStop s).line.sclO = true ∧ (busStop s).line.sdaO = true

/-- R191, R195: with no action pending, or with `EN = 0`, the bus side changes nothing but its own line level. -/
def Obligations.BusSideIsStableWithNothingPending : Prop :=
  ∀ (e : EnvEvent) (s : State), e.isBus = true → s.pend = .noAct ∨ ctrlEN s.ctrl = false →
    envStep e s = { s with line := (envStep e s).line }

/-- R203, R193, R199: what the bus side never does: it never sets or clears `EN`, `EA` or `STA`, never sets `STO`, never
clears `CF`, sets `CF` only with an action pending, never launches an action, and never writes `TIMEOUT`, `NOW`, the
ReceiveBuffer or an engine register. It writes `DATA` only at the completion of a receiving transfer, or, where the action
has no defined direction (R199), in an oracle turn that says so: that last case is log entry 11; that a transfer that
sends by R193 is none of these, out of sequence too, is log entry 33. -/
def Obligations.BusSideNeverOversteps : Prop :=
  ∀ (e : EnvEvent) (s : State), e.isBus = true →
    ctrlEN (envStep e s).ctrl = ctrlEN s.ctrl ∧ ctrlEA (envStep e s).ctrl = ctrlEA s.ctrl ∧
      ctrlSTA (envStep e s).ctrl = ctrlSTA s.ctrl ∧
      (ctrlSTO (envStep e s).ctrl = true → ctrlSTO s.ctrl = true) ∧
      (ctrlCF s.ctrl = true → ctrlCF (envStep e s).ctrl = true) ∧
      (ctrlCF (envStep e s).ctrl ≠ ctrlCF s.ctrl → s.pend ≠ .noAct ∧ (envStep e s).pend = .noAct) ∧
      ((envStep e s).pend = s.pend ∨ (envStep e s).pend = .noAct) ∧
      ((envStep e s).data ≠ s.data → ctrlCF (envStep e s).ctrl = true ∧ (envStep e s).pend = .noAct ∧
        ((s.pend = .xferAct ∧ xferDir s.held s.mode = .receive) ∨
          ((s.pend = .badAct ∨ s.pend = .xferAct ∧ xferDir s.held s.mode = .undefined) ∧
            ∃ st b, e = .done st b true))) ∧
      (envStep e s).timeout = s.timeout ∧ (envStep e s).now = s.now ∧ (envStep e s).t0 = s.t0 ∧
      (envStep e s).rc = s.rc ∧ (envStep e s).busy = s.busy ∧ (envStep e s).cmderr = s.cmderr ∧
      (envStep e s).opc = s.opc ∧ (envStep e s).sla = s.sla ∧ (envStep e s).sel = s.sel ∧
      (envStep e s).cnt = s.cnt ∧ (envStep e s).txlen = s.txlen ∧ (envStep e s).saved = s.saved ∧
      (envStep e s).seq = s.seq ∧ (envStep e s).outc = s.outc ∧ (envStep e s).rxbuf = s.rxbuf ∧
      (envStep e s).txbuf = s.txbuf ∧ (envStep e s).avail = s.avail ∧ (envStep e s).cursor = s.cursor ∧
      (envStep e s).total = s.total

/-- R220, R201, R204: the line level and the nominal bus refine the register contract: each turn of the line level either
leaves everything but the line level as it was, or does exactly one completion the contract allows; the nominal bus's
answer is a completion the contract allows, or none. -/
def Obligations.LineLevelAndNominalBusRefineTheContract : Prop :=
  (∀ (s : State) (a b : Bool),
    lineStep a b s = { s with line := (lineStep a b s).line } ∨
      (∃ st d, lineStep a b s = { busDone st d false s with line := (lineStep a b s).line }) ∨
      lineStep a b s = { busStop s with line := (lineStep a b s).line }) ∧
  ∀ (s : State) (ack : Bool) (b : Byte),
    busNominal ack b s = s ∨ (∃ st, busNominal ack b s = busDone st b false s) ∨ busNominal ack b s = busStop s

/-- R210, R200: arbitration: while this master sends a bit it released (1) and samples 0 with the clock high, the turn
completes the transfer with the lost-arbitration status, the bus is no longer held, and both lines are released. -/
def Obligations.ArbitrationIsLostOnASampledZero : Prop :=
  ∀ (s : State) (b : Bool), s.cfg.Ok → ctrlEN s.ctrl = true → s.pend = .xferAct → s.held = true →
    xferDir s.held s.mode = .send → s.line.phase = .bitHigh → s.line.bitn < 8 → s.line.shift.getLsbD 7 = true →
    s.line.sclO = true → (s.line.sdaO && b) = false →
    (lineStep true b s).status = s.cfg.stLostArb ∧ ctrlCF (lineStep true b s).ctrl = true ∧
      (lineStep true b s).pend = .noAct ∧ (lineStep true b s).held = false ∧ (lineStep true b s).mode = .noMode ∧
      (lineStep true b s).line.sclO = true ∧ (lineStep true b s).line.sdaO = true ∧
      (lineStep true b s).data = s.data

/-- R211, R208: on quiet lines (no other device drives data during the eight bits, none stretches the clock) an address
byte takes 36 turns of the line level; the ninth bit, low for ACK, decides the status, and the address's direction bit
decides which pair of statuses. The number of turns is the model's (log entry 15). -/
def Obligations.AddressByteIsSentAndAcknowledged : Prop :=
  ∀ (s : State) (ack : Bool), s.cfg.Ok → ctrlEN s.ctrl = true → s.pend = .xferAct → s.held = true →
    s.mode = .noMode → s.line.phase = .idle → s.line.sclO = false →
    ∃ l, lineRun (List.replicate 32 (true, true) ++ List.replicate 4 (true, !ack)) s =
      { busDone
          (if s.data.getLsbD 0 then (if ack then s.cfg.stMrSlaAck else s.cfg.stMrSlaNack)
            else (if ack then s.cfg.stMtSlaAck else s.cfg.stMtSlaNack)) 0 false s with line := l }

/-- R244, R54, R55, R56, R282: the clock adds one to `NOW`, modulo 2^32; the host appends to `CMDQ` and takes from the
front of `RSPQ` and `RXOUT`; each changes nothing else. That a take from an empty stream changes nothing is log
entry 23. -/
def Obligations.ClockAndHostTurnsChangeOneElement : Prop :=
  ∀ (s : State) (b : Byte) (ts : List Turn),
    (s.script = .env .tick :: ts → step s = .next { s with now := s.now + 1, script := ts }) ∧
      (s.script = .env (.send b) :: ts → step s = .next { s with cmdq := s.cmdq ++ [b], script := ts }) ∧
      (s.script = .env .takeRsp :: ts → step s = .next { s with rspq := s.rspq.tail, script := ts }) ∧
      (s.script = .env .takeRx :: ts → step s = .next { s with rxout := s.rxout.tail, script := ts })

/-- R265, R57: the initial state, and the state after a reset at any point of any run, have the reset values the spec
states, with both lines released. -/
def Obligations.ResetGivesTheStatedValues : Prop :=
  ∀ t : State, (t = State.reset ∨ ∃ s ts, s.script = .env .rst :: ts ∧ step s = .next t) →
    t.ctrl = 0b00011 ∧ t.timeout = 0 ∧ t.now = 0 ∧ t.rc = 0 ∧ t.busy = false ∧ t.cmderr = false ∧
      t.seq.tstep = .noStep ∧ t.seq.mph = .done ∧ t.seq.idx = 0 ∧ t.seq.nstop = false ∧ t.avail = 0 ∧ t.cursor = 0 ∧
      t.total = 0 ∧ t.held = false ∧ t.mode = .noMode ∧ t.pend = .noAct ∧ t.cmdq = [] ∧ t.rspq = [] ∧ t.rxout = [] ∧
      t.ev = [] ∧ t.line.sclO = true ∧ t.line.sdaO = true

/-! ### Polling and classification -/

/-- R123: one poll iteration, the engine's turn while a command polls: completion first, then the timeout with `>=`,
otherwise nothing changes. A completed `stop` succeeds without a status (R143). -/
def Obligations.PollIterationFollowsItsOrder : Prop :=
  ∀ (s : State) (p : Prim), s.busy = true → EngineMoves s → currentPrim s = some p → s.seq.mph = .poll →
    (pollDone p s.ctrl = true → p ≠ .stop →
        step s = .next { s with seq := { s.seq with mph := .status }, script := s.script.tail }) ∧
      (pollDone p s.ctrl = true → p = .stop →
        step s = .next { s with outc := .ok, seq := { s.seq with mph := .done }, script := s.script.tail }) ∧
      (pollDone p s.ctrl = false → s.timeout ≠ 0 → s.timeout.toNat ≤ (s.now - s.t0).toNat →
        step s = .next { s with outc := .timeout, seq := { s.seq with mph := .lock0 }, script := s.script.tail }) ∧
      (pollDone p s.ctrl = false → s.timeout = 0 ∨ (s.now - s.t0).toNat < s.timeout.toNat →
        step s = .next { s with script := s.script.tail })

/-- R124, R276: the hang: with the timeout disabled and the action not complete, nothing but the clock's count changes,
however long the engine and the clock go on. -/
def Obligations.DisabledTimeoutHangsForEver : Prop :=
  ∀ (s : State) (p : Prim), s.busy = true → currentPrim s = some p → s.seq.mph = .poll → s.timeout = 0 →
    pollDone p s.ctrl = false → (∀ t ∈ s.script, t = .engine ∨ t = .env .tick) →
    ∀ k, ∃ n, Sys2Proof.core.run k s = .next { s with now := n, script := s.script.drop k }

/-- R126, R131, R134, R137, R140: `M_STATUS` saves the status and classifies it by the primitive's table: success goes on,
a slave's refusal (in a send only) begins the nested stop, anything else goes to lockup recovery. -/
def Obligations.StatusIsClassifiedByThePrimitivesTable : Prop :=
  ∀ (s : State) (p : Prim), s.cfg.Ok → s.busy = true → EngineMoves s → currentPrim s = some p → s.seq.mph = .status →
    p ≠ .stop →
    let good : List Byte := match p with
      | .start => [s.cfg.stStart, s.cfg.stRepStart]
      | .addr d => [if d then s.cfg.stMrSlaAck else s.cfg.stMtSlaAck]
      | .byte => [s.cfg.stMtDataAck]
      | .recv ack => [if ack then s.cfg.stMrDataAck else s.cfg.stMrDataNack]
      | .stop => []
    let nacks : List Byte := match p with
      | .start => []
      | .addr d => [if d then s.cfg.stMrSlaNack else s.cfg.stMtSlaNack]
      | .byte => [s.cfg.stMtDataNack]
      | .recv _ => []
      | .stop => []
    (s.status ∈ good →
      step s = .next
        { s with
          saved := s.status, outc := .ok, seq := { s.seq with mph := .done }, script := s.script.tail }) ∧
    (s.status ∈ nacks →
      step s = .next
        { s with
          saved := s.status, seq := { s.seq with mph := .t0, nstop := true }, script := s.script.tail }) ∧
    (s.status ∉ good → s.status ∉ nacks →
      step s = .next
        { s with
          saved := s.status, outc := .status s.status, seq := { s.seq with mph := .lock0 },
          script := s.script.tail })

/-- R232, R233: the return code of an outcome, for each step: 0, the step's number, or the status unchanged. -/
def Obligations.ErrorMapperGivesTheStepCodes : Prop :=
  (∀ k s, rcOf .ok k = 0 ∧ rcOf .timeout k = k ∧ rcOf (.status s) k = s) ∧
    [TStep.start, .addressWrite, .dataSend, .repeatedStart, .addressRead, .dataReceive, .stop].map stepCode =
      [1, 2, 3, 4, 5, 6, 7]

/-! ### The primitive commands -/

/-- R130, R131, R145: `START` and `START.R` whose action the bus side completes with a start or repeated-start status:
response 0, `CTRL = 0b10101`, the bus held; exactly one `CTRL` write; nothing else changed. -/
def Obligations.StartCommandsSucceedOnAStartStatus : Prop :=
  ∀ (s : State) (st b : Byte) (r : Bool) (rest : List Turn), Ready s →
    st = s.cfg.stStart ∨ st = s.cfg.stRepStart →
    s.script = shortTurns (.done st b r) ++ engineTurns 1 ++ rest →
    ∀ row ∈ [(Instr.start, (0x10 : Byte)), (.startR, 0x11)], ∃ l,
      exec row.1 s = .next
        { s with
          opc := row.2, t0 := s.now, ctrl := 0b10101, status := st, saved := st, rc := 0, seq := SeqPtr.rest,
          outc := .ok, pend := .noAct, held := true, mode := .noMode, line := l, rspq := s.rspq ++ [0],
          ev := s.ev ++ [.ctrl 0b10101, .done st none, .rsp 0], free := s.free + 1, script := rest }

/-- R133, R134, R145, R102: `SADDR.W` and `SADDR.R` in the address phase, acknowledged: `DATA` holds the address byte,
`CTRL = 0b10001`, `MODE` follows the direction; nothing else changed. -/
def Obligations.AddressCommandsSucceedOnTheirAck : Prop :=
  ∀ (s : State) (a7 : SlaveAddr) (b : Byte) (r : Bool) (rest : List Turn), Ready s → s.cfg.Ok → s.held = true →
    s.mode = .noMode →
    (s.script = sendTurns (.done s.cfg.stMtSlaAck b r) ++ engineTurns 1 ++ rest → ∃ l,
      exec (.saddrW a7) s = .next
        { s with
          opc := 0x20, sla := a7, data := a7 ++ (0 : BitVec 1), t0 := s.now, ctrl := 0b10001,
          status := s.cfg.stMtSlaAck, saved := s.cfg.stMtSlaAck, rc := 0, seq := SeqPtr.rest, outc := .ok,
          pend := .noAct, mode := .mt, line := l, rspq := s.rspq ++ [0],
          ev := s.ev ++ [.data (a7 ++ (0 : BitVec 1)), .ctrl 0b10001, .done s.cfg.stMtSlaAck none, .rsp 0],
          free := s.free + 1, script := rest }) ∧
    (s.script = sendTurns (.done s.cfg.stMrSlaAck b r) ++ engineTurns 1 ++ rest → ∃ l,
      exec (.saddrR a7) s = .next
        { s with
          opc := 0x21, sla := a7, data := a7 ++ (1 : BitVec 1), t0 := s.now, ctrl := 0b10001,
          status := s.cfg.stMrSlaAck, saved := s.cfg.stMrSlaAck, rc := 0, seq := SeqPtr.rest, outc := .ok,
          pend := .noAct, mode := .mr, line := l, rspq := s.rspq ++ [0],
          ev := s.ev ++ [.data (a7 ++ (1 : BitVec 1)), .ctrl 0b10001, .done s.cfg.stMrSlaAck none, .rsp 0],
          free := s.free + 1, script := rest })

/-- R136, R137, R145: `SBYTE` to a slave that acknowledges, this master being the transmitter: `DATA` holds the byte,
`CTRL = 0b10001`; the byte is latched as a payload of one byte (log entry 10); nothing else changed. That `DATA` keeps the
byte with the bus not held too is log entry 33. -/
def Obligations.SbyteSucceedsOnTheDataAck : Prop :=
  ∀ (s : State) (b x : Byte) (r : Bool) (rest : List Turn), Ready s → MemoryOk s → s.cfg.Ok → s.mode = .mt →
    s.script = sendTurns (.done s.cfg.stMtDataAck x r) ++ engineTurns 1 ++ rest → ∃ l,
      exec (.sbyte b) s = .next
        { s with
          opc := 0x30, txlen := 1, txbuf := s.txbuf.write 0 b, data := b, t0 := s.now, ctrl := 0b10001,
          status := s.cfg.stMtDataAck, saved := s.cfg.stMtDataAck, rc := 0, seq := SeqPtr.rest, outc := .ok,
          pend := .noAct, line := l, rspq := s.rspq ++ [0],
          ev := s.ev ++ [.data b, .ctrl 0b10001, .done s.cfg.stMtDataAck none, .rsp 0],
          free := s.free + 1, script := rest }

/-- R139, R140, R145: `RBYTE.A` and `RBYTE.N`, this master being the receiver, completed with the status of the
acknowledge mode asked for: `DATA` holds the received byte, `CTRL` the arm's value; nothing else changed. -/
def Obligations.RbyteCommandsDeliverTheReceivedByte : Prop :=
  ∀ (s : State) (b : Byte) (r : Bool) (rest : List Turn), Ready s → s.cfg.Ok → s.mode = .mr →
    (s.script = shortTurns (.done s.cfg.stMrDataAck b r) ++ engineTurns 1 ++ rest → ∃ l,
      exec .rbyteA s = .next
        { s with
          opc := 0x41, data := b, t0 := s.now, ctrl := 0b10011, status := s.cfg.stMrDataAck,
          saved := s.cfg.stMrDataAck, rc := 0, seq := SeqPtr.rest, outc := .ok, pend := .noAct, line := l,
          rspq := s.rspq ++ [0], ev := s.ev ++ [.ctrl 0b10011, .done s.cfg.stMrDataAck (some b), .rsp 0],
          free := s.free + 1, script := rest }) ∧
    (s.script = shortTurns (.done s.cfg.stMrDataNack b r) ++ engineTurns 1 ++ rest → ∃ l,
      exec .rbyteN s = .next
        { s with
          opc := 0x40, data := b, t0 := s.now, ctrl := 0b10001, status := s.cfg.stMrDataNack,
          saved := s.cfg.stMrDataNack, rc := 0, seq := SeqPtr.rest, outc := .ok, pend := .noAct, line := l,
          rspq := s.rspq ++ [0], ev := s.ev ++ [.ctrl 0b10001, .done s.cfg.stMrDataNack (some b), .rsp 0],
          free := s.free + 1, script := rest })

/-- R142, R143, R144, R145: `STOP` whose stop condition the bus side generates: response 0, `CTRL = 0b00001`, the bus
released, no status read (`STATUS` is the second of two free bytes, log entry 6); nothing else changed. -/
def Obligations.StopCommandReleasesTheBus : Prop :=
  ∀ (s : State) (rest : List Turn), Ready s → s.script = stopTurns .sto ++ engineTurns 1 ++ rest → ∃ l,
    exec .stop s = .next
      { s with
        opc := 0x50, t0 := s.now, ctrl := 0b00001, status := Config.freeByte (s.free + 1), rc := 0,
        seq := SeqPtr.rest, outc := .ok, pend := .noAct, held := false, mode := .noMode, line := l,
        rspq := s.rspq ++ [0], ev := s.ev ++ [.ctrl 0b11001, .sto, .rsp 0], free := s.free + 2, script := rest }

/-- R229, R131, R134, R137, R140: a bus fault in a primitive command: any status that is neither the success status nor
the slave's refusal ends in exactly one lockup reset and is returned unchanged; the controller is idle. -/
def Obligations.BusFaultEndsInOneLockupReset : Prop :=
  ∀ (i : Instr) (k : TStep) (p : Prim) (s : State) (st b : Byte) (r : Bool) (rest : List Turn), Ready s → MemoryOk s →
    primitiveOf i = some (k, p) → p ≠ .stop → classify s.cfg p st = .busFault →
    s.script = primTurns p (.done st b r) ++ engineTurns 3 ++ rest →
    ∃ t d, exec i s = .next t ∧ t.busy = false ∧ t.rc = st ∧ t.saved = st ∧ t.rspq = s.rspq ++ [st] ∧ Idle t ∧
      t.ctrl = 0b00011 ∧ t.mode = .noMode ∧ t.script = rest ∧ ConfigUntouched s t ∧ ReceiveUntouched s t ∧
      t.rxout = s.rxout ∧
      t.ev = s.ev ++ dataEvents i ++
        [.ctrl (armWord p), .done st d, .ctrl 0b00000, .ctrl 0b00011, .rsp st]

/-- R228, R127: a slave's refusal of an address or data byte: a stop is issued, the refusal's status is returned, and the
controller is idle with `CTRL = 0b00001`. -/
def Obligations.SlaveRefusalIssuesAStop : Prop :=
  ∀ (i : Instr) (k : TStep) (p : Prim) (s : State) (st b : Byte) (r : Bool) (rest : List Turn), Ready s → MemoryOk s →
    primitiveOf i = some (k, p) → classify s.cfg p st = .nack →
    s.script = sendTurns (.done st b r) ++ stopTurns .sto ++ engineTurns 2 ++ rest →
    ∃ t d, exec i s = .next t ∧ t.busy = false ∧ t.rc = st ∧ t.saved = st ∧ t.rspq = s.rspq ++ [st] ∧ Idle t ∧
      t.ctrl = 0b00001 ∧ t.script = rest ∧ ConfigUntouched s t ∧ ReceiveUntouched s t ∧ t.rxout = s.rxout ∧
      t.ev = s.ev ++ dataEvents i ++ [.ctrl 0b10001, .done st d, .ctrl 0b11001, .sto, .rsp st]

/-- R127, R243 (4): when the stop of the refusal path times out, its lockup reset is the only trace: the return code is
still the refusal's status. -/
def Obligations.TimedOutRefusalStopIsNotReported : Prop :=
  ∀ (i : Instr) (k : TStep) (p : Prim) (s : State) (st b : Byte) (r : Bool) (n : Nat) (rest : List Turn), Ready s →
    MemoryOk s →
    primitiveOf i = some (k, p) → classify s.cfg p st = .nack → s.timeout ≠ 0 → s.timeout.toNat ≤ n → n < 2 ^ 32 →
    s.script = sendTurns (.done st b r) ++ engineTurns 2 ++ ticks n ++ engineTurns 5 ++ rest →
    ∃ t d, exec i s = .next t ∧ t.busy = false ∧ t.rc = st ∧ t.rspq = s.rspq ++ [st] ∧ Idle t ∧ t.ctrl = 0b00011 ∧
      t.script = rest ∧ ConfigUntouched s t ∧ ReceiveUntouched s t ∧ t.rxout = s.rxout ∧
      t.ev = s.ev ++ dataEvents i ++
        [.ctrl 0b10001, .done st d, .ctrl 0b11001, .ctrl 0b00000, .ctrl 0b00011, .rsp st]

/-- R290, R227, R232, R256: if the clock ticks at least `TIMEOUT` times after `T0` is latched and the engine then polls
once more with no completion, the primitive command ends with its step code after one lockup reset, and the
controller is idle; `SAVED` is unchanged. -/
def Obligations.TimeoutReturnsTheStepCode : Prop :=
  ∀ (i : Instr) (k : TStep) (p : Prim) (s : State) (n : Nat) (rest : List Turn), Ready s → MemoryOk s →
    primitiveOf i = some (k, p) → s.timeout ≠ 0 → s.timeout.toNat ≤ n → n < 2 ^ 32 →
    s.script = armTurns p ++ ticks n ++ engineTurns 4 ++ rest →
    ∃ t, exec i s = .next t ∧ t.busy = false ∧ t.rc = stepCode k ∧ t.rspq = s.rspq ++ [stepCode k] ∧ Idle t ∧
      t.ctrl = 0b00011 ∧ t.saved = s.saved ∧ t.script = rest ∧ ConfigUntouched s t ∧ ReceiveUntouched s t ∧
      t.rxout = s.rxout ∧
      t.ev = s.ev ++ dataEvents i ++
        [.ctrl (armWord p), .ctrl 0b00000, .ctrl 0b00011, .rsp (stepCode k)]

/-! ### The transactions -/

/-- R152, R154, R168: `WRITE8` and `WRITE16` on the nominal bus with a slave that acknowledges everything: the engine's
writes are exactly start, address byte, selector (high byte first), data bytes in order, stop; response 0; the
controller idle with `CTRL = 0b00001`; the ReceiveBuffer untouched. -/
def Obligations.WriteTransactionsCompleteInOrder : Prop :=
  ∀ (s : State) (sla : SlaveAddr) (d : List Byte) (rest : List Turn), Ready s → MemoryOk s → s.cfg.Ok → d.length ≤ 255 →
    (∀ sel : Byte, s.script = nominalStart ++ sendLoop (2 + d.length) ++ nominalStop ++ rest →
      ∃ t, exec (.write8 sla sel d) s = .next t ∧ t.busy = false ∧ t.rc = 0 ∧ t.rspq = s.rspq ++ [0] ∧ Idle t ∧
        t.ctrl = 0b00001 ∧ t.script = rest ∧ ReceiveUntouched s t ∧ t.rxout = s.rxout ∧ ConfigUntouched s t ∧
        t.now = s.now ∧ t.cnt = s.cnt ∧
        engineWrites t.ev = engineWrites s.ev ++ [.ctrl 0b10101] ++
          sendWrites (addressByte sla false :: sel :: d) ++ [.ctrl 0b11001]) ∧
    (∀ sel : Half, s.script = nominalStart ++ sendLoop (3 + d.length) ++ nominalStop ++ rest →
      ∃ t, exec (.write16 sla sel d) s = .next t ∧ t.busy = false ∧ t.rc = 0 ∧ t.rspq = s.rspq ++ [0] ∧ Idle t ∧
        t.ctrl = 0b00001 ∧ t.script = rest ∧ ReceiveUntouched s t ∧ t.rxout = s.rxout ∧ ConfigUntouched s t ∧
        t.now = s.now ∧ t.cnt = s.cnt ∧
        engineWrites t.ev = engineWrites s.ev ++ [.ctrl 0b10101] ++
          sendWrites (addressByte sla false :: hiByte sel :: loByte sel :: d) ++ [.ctrl 0b11001])

/-- R158, R159, R160, R161, R157: `READ` and `READ.X` on the nominal bus with a slave that acknowledges its address: as
many bytes as the effective count, in order, into the ReceiveBuffer (emptied first) or the caller's buffer; the last
byte not acknowledged; response 0; the controller idle. -/
def Obligations.ReadTransactionsDeliverTheBytes : Prop :=
  ∀ (s : State) (sla : SlaveAddr) (cnt : Byte) (bs : List Byte) (rest : List Turn), Ready s → MemoryOk s → s.cfg.Ok →
    s.script = nominalStart ++ sendLoop 1 ++ receiveLoop bs ++ nominalStop ++ rest →
    (bs.length = effectiveCount cnt false s.cfg.rxcap →
      ∃ t, exec (.read sla cnt) s = .next t ∧ t.busy = false ∧ t.rc = 0 ∧ t.rspq = s.rspq ++ [0] ∧ Idle t ∧
        t.ctrl = 0b00001 ∧ t.script = rest ∧ t.avail.toNat = bs.length ∧ t.total.toNat = bs.length ∧ t.cursor = 0 ∧
        (∀ k, t.rxbuf.read k = if k < bs.length then bs.getD k 0 else s.rxbuf.read k) ∧ t.rxout = s.rxout ∧
        ConfigUntouched s t ∧ PayloadUntouched s t ∧ t.now = s.now ∧
        engineWrites t.ev = engineWrites s.ev ++ [.ctrl 0b10101] ++ sendWrites [addressByte sla true] ++
          receiveWrites bs.length ++ [.ctrl 0b11001]) ∧
    (bs.length = effectiveCount cnt true s.cfg.rxcap →
      ∃ t, exec (.readX sla cnt) s = .next t ∧ t.busy = false ∧ t.rc = 0 ∧ t.rspq = s.rspq ++ [0] ∧ Idle t ∧
        t.ctrl = 0b00001 ∧ t.script = rest ∧ t.rxout = s.rxout ++ bs ∧ ReceiveUntouched s t ∧ ConfigUntouched s t ∧
        PayloadUntouched s t ∧ t.now = s.now ∧
        engineWrites t.ev = engineWrites s.ev ++ [.ctrl 0b10101] ++ sendWrites [addressByte sla true] ++
          receiveWrites bs.length ++ [.ctrl 0b11001])

/-- R164, R165, R166, R157, R160: `RREAD8`, `RREAD16` into the ReceiveBuffer on the nominal bus: the engine's writes are
exactly start, address (write), selector byte or bytes, repeated start, address (read), the receives with the last
un-acknowledged, stop, in that order. -/
def Obligations.RegisterReadsCompleteInOrder : Prop :=
  ∀ (s : State) (sla : SlaveAddr) (cnt : Byte) (bs : List Byte) (rest : List Turn), Ready s → MemoryOk s → s.cfg.Ok →
    bs.length = effectiveCount cnt false s.cfg.rxcap →
    (∀ sel : Byte,
      s.script = nominalStart ++ sendLoop 2 ++ nominalStart ++ sendLoop 1 ++ receiveLoop bs ++ nominalStop ++ rest →
      ∃ t, exec (.rread8 sla sel cnt) s = .next t ∧ t.busy = false ∧ t.rc = 0 ∧ t.rspq = s.rspq ++ [0] ∧ Idle t ∧
        t.ctrl = 0b00001 ∧ t.script = rest ∧ t.avail.toNat = bs.length ∧ t.total.toNat = bs.length ∧ t.cursor = 0 ∧
        (∀ k, t.rxbuf.read k = if k < bs.length then bs.getD k 0 else s.rxbuf.read k) ∧ t.rxout = s.rxout ∧
        ConfigUntouched s t ∧ PayloadUntouched s t ∧ t.now = s.now ∧
        engineWrites t.ev = engineWrites s.ev ++ [.ctrl 0b10101] ++ sendWrites [addressByte sla false, sel] ++
          [.ctrl 0b10101] ++ sendWrites [addressByte sla true] ++ receiveWrites bs.length ++ [.ctrl 0b11001]) ∧
    (∀ sel : Half,
      s.script = nominalStart ++ sendLoop 3 ++ nominalStart ++ sendLoop 1 ++ receiveLoop bs ++ nominalStop ++ rest →
      ∃ t, exec (.rread16 sla sel cnt) s = .next t ∧ t.busy = false ∧ t.rc = 0 ∧ t.rspq = s.rspq ++ [0] ∧ Idle t ∧
        t.ctrl = 0b00001 ∧ t.script = rest ∧ t.avail.toNat = bs.length ∧ t.total.toNat = bs.length ∧ t.cursor = 0 ∧
        (∀ k, t.rxbuf.read k = if k < bs.length then bs.getD k 0 else s.rxbuf.read k) ∧ t.rxout = s.rxout ∧
        ConfigUntouched s t ∧ PayloadUntouched s t ∧ t.now = s.now ∧
        engineWrites t.ev = engineWrites s.ev ++ [.ctrl 0b10101] ++
          sendWrites [addressByte sla false, hiByte sel, loByte sel] ++
          [.ctrl 0b10101] ++ sendWrites [addressByte sla true] ++ receiveWrites bs.length ++ [.ctrl 0b11001])

/-- R164, R67, R157: `RREAD8.X`, `RREAD16.X` into the caller's buffer on the nominal bus: the bytes in order, unclamped;
the ReceiveBuffer untouched. -/
def Obligations.RegisterReadsIntoTheCallersBufferComplete : Prop :=
  ∀ (s : State) (sla : SlaveAddr) (cnt : Byte) (bs : List Byte) (rest : List Turn), Ready s → MemoryOk s → s.cfg.Ok →
    bs.length = effectiveCount cnt true s.cfg.rxcap →
    (∀ sel : Byte,
      s.script = nominalStart ++ sendLoop 2 ++ nominalStart ++ sendLoop 1 ++ receiveLoop bs ++ nominalStop ++ rest →
      ∃ t, exec (.rread8X sla sel cnt) s = .next t ∧ t.busy = false ∧ t.rc = 0 ∧ t.rspq = s.rspq ++ [0] ∧ Idle t ∧
        t.ctrl = 0b00001 ∧ t.script = rest ∧ t.rxout = s.rxout ++ bs ∧ ReceiveUntouched s t ∧ ConfigUntouched s t ∧
        PayloadUntouched s t ∧ t.now = s.now ∧
        engineWrites t.ev = engineWrites s.ev ++ [.ctrl 0b10101] ++ sendWrites [addressByte sla false, sel] ++
          [.ctrl 0b10101] ++ sendWrites [addressByte sla true] ++ receiveWrites bs.length ++ [.ctrl 0b11001]) ∧
    (∀ sel : Half,
      s.script = nominalStart ++ sendLoop 3 ++ nominalStart ++ sendLoop 1 ++ receiveLoop bs ++ nominalStop ++ rest →
      ∃ t, exec (.rread16X sla sel cnt) s = .next t ∧ t.busy = false ∧ t.rc = 0 ∧ t.rspq = s.rspq ++ [0] ∧ Idle t ∧
        t.ctrl = 0b00001 ∧ t.script = rest ∧ t.rxout = s.rxout ++ bs ∧ ReceiveUntouched s t ∧ ConfigUntouched s t ∧
        PayloadUntouched s t ∧ t.now = s.now ∧
        engineWrites t.ev = engineWrites s.ev ++ [.ctrl 0b10101] ++
          sendWrites [addressByte sla false, hiByte sel, loByte sel] ++
          [.ctrl 0b10101] ++ sendWrites [addressByte sla true] ++ receiveWrites bs.length ++ [.ctrl 0b11001])

/-- R151, R155, R162, R167: a transaction whose address nobody acknowledges ends with that refusal's status after a stop,
and attempts no later step: every form at its first address, a register read at its second address too. A buffer-less
read has emptied the ReceiveBuffer (R159). -/
def Obligations.TransactionStopsAtARefusedAddress : Prop :=
  (∀ (i : Instr) (s : State) (sla : SlaveAddr) (d : Bool) (rest : List Turn), Ready s → s.cfg.Ok →
    firstAddress i = some (sla, d) →
    s.script = nominalStart ++ sendTurns (.nominal false 0) ++ stopTurns .sto ++ engineTurns 2 ++ rest →
    ∃ t, exec i s = .next t ∧ AddressRefused i s t d rest ∧
      engineWrites t.ev = engineWrites s.ev ++ [.ctrl 0b10101] ++ sendWrites [addressByte sla d] ++
        [.ctrl 0b11001]) ∧
  ∀ (s : State) (sla : SlaveAddr) (e : Byte) (e16 : Half) (cnt : Byte) (rest : List Turn), Ready s → s.cfg.Ok →
    ∀ row ∈ [(Instr.rread8 sla e cnt, [e]), (.rread8X sla e cnt, [e]),
        (.rread16 sla e16 cnt, [hiByte e16, loByte e16]), (.rread16X sla e16 cnt, [hiByte e16, loByte e16])],
      s.script = nominalStart ++ sendLoop (1 + row.2.length) ++ nominalStart ++ sendTurns (.nominal false 0) ++
        stopTurns .sto ++ engineTurns 2 ++ rest →
      ∃ t, exec row.1 s = .next t ∧ AddressRefused row.1 s t true rest ∧
        engineWrites t.ev = engineWrites s.ev ++ [.ctrl 0b10101] ++ sendWrites (addressByte sla false :: row.2) ++
          [.ctrl 0b10101] ++ sendWrites [addressByte sla true] ++ [.ctrl 0b11001]

/-- R160, R140, R151, R227: a read, of any form, that fails at its `k`-th receive has stored exactly the `k` bytes received
before it, in the ReceiveBuffer or in the caller's buffer. It fails with any status but the one of the acknowledge mode
asked for, which it returns unchanged, or by a timeout, with step code 6; a lockup reset has been performed. -/
def Obligations.FailedReadKeepsTheBytesBeforeIt : Prop :=
  ∀ (i : Instr) (cnt : Byte) (x : Bool) (s : State) (bs : List Byte) (rest : List Turn), Ready s → MemoryOk s →
    s.cfg.Ok → readOperands i = some (cnt, x) → bs.length < effectiveCount cnt x s.cfg.rxcap →
    (∀ (st b : Byte) (r : Bool),
      st ≠ (if bs.length + 1 = effectiveCount cnt x s.cfg.rxcap then s.cfg.stMrDataNack else s.cfg.stMrDataAck) →
      s.script = readTurns i ++ receiveLoop bs ++ shortTurns (.done st b r) ++ engineTurns 3 ++ rest →
      ∃ t, exec i s = .next t ∧ ReadFailed s t x bs st rest) ∧
    (∀ n : Nat, s.timeout ≠ 0 → s.timeout.toNat ≤ n → n < 2 ^ 32 →
      s.script = readTurns i ++ receiveLoop bs ++ engineTurns 2 ++ ticks n ++ engineTurns 4 ++ rest →
      ∃ t, exec i s = .next t ∧ ReadFailed s t x bs 6 rest)

/-- R157: the effective count is at least 1, at most 255, at most `RXCAP` for a buffer-less read; 0 asks for 1; within
the bounds the request is honoured exactly. -/
def Obligations.EffectiveCountIsCoercedAndClamped : Prop :=
  ∀ (cnt : Byte) (cap : Nat), 1 ≤ cap →
    (∀ x, 1 ≤ effectiveCount cnt x cap ∧ effectiveCount cnt x cap ≤ 255 ∧
      effectiveCount 0 x cap = effectiveCount 1 x cap) ∧
    effectiveCount cnt false cap ≤ cap ∧
    (1 ≤ cnt.toNat → effectiveCount cnt true cap = cnt.toNat) ∧
    (1 ≤ cnt.toNat → cnt.toNat ≤ cap → effectiveCount cnt false cap = cnt.toNat) ∧
    (cap ≤ cnt.toNat → effectiveCount cnt false cap = cap)

/-- R69, R170: a wide write of `k` bytes is a `WRITE` whose payload is the value's `k` bytes, most significant first. R113
has `k` = 1, 2, 4, 8; that one function covers every `k` is log entry 27. -/
def Obligations.WideWritesDecomposeMostSignificantFirst : Prop :=
  ∀ (k : Nat) (sla : SlaveAddr) (e : Byte) (e16 : Half) (v : BitVec (8 * k)),
    ∃ d : List Byte, write8Wide k sla e v = .write8 sla e d ∧ write16Wide k sla e16 v = .write16 sla e16 d ∧
      d.length = k ∧ ∀ i, i < k → d[i]? = some (v.extractLsb' (8 * (k - 1 - i)) 8)

/-! ### The buffer and configuration commands -/

/-- R176, R175: `SETTO` writes the threshold and responds 0x00, whatever the schedule; nothing else changed but the
latched opcode byte. -/
def Obligations.SettoWritesTheThreshold : Prop :=
  ∀ (s : State) (ms : Half), Ready s →
    exec (.setto ms) s = .next
      { s with opc := 0xC0, timeout := ms, rspq := s.rspq ++ [0], ev := s.ev ++ [.rsp 0] } ∧
    encode (.setto ms) = .packet [0xC0, ms.extractLsb' 8 8, ms.extractLsb' 0 8]

/-- R178, R175: `AVAIL` responds the count of bytes not yet consumed. -/
def Obligations.AvailRespondsTheCount : Prop :=
  ∀ s : State, Ready s →
    exec .avail s = .next { s with opc := 0xD0, rspq := s.rspq ++ [s.avail], ev := s.ev ++ [.rsp s.avail] } ∧
      encode .avail = .packet [0xD0]

/-- R183, R175: `GETD` responds the data register. -/
def Obligations.GetdRespondsTheDataRegister : Prop :=
  ∀ s : State, Ready s →
    exec .getd s = .next { s with opc := 0x60, rspq := s.rspq ++ [s.data], ev := s.ev ++ [.rsp s.data] } ∧
      encode .getd = .packet [0x60]

/-- R180, R181, R175: `RECV` on a non-empty buffer consumes the byte at `CURSOR`; on an empty one it responds 0x00 and
consumes nothing. The premise on the counts is the invariant of R47. -/
def Obligations.RecvConsumesOneByte : Prop :=
  ∀ s : State, Ready s → CountsOk s →
    (s.avail = 0 →
      exec .recv s = .next { s with opc := 0xE0, rspq := s.rspq ++ [0], ev := s.ev ++ [.rsp 0] }) ∧
    (s.avail ≠ 0 →
      exec .recv s = .next
        { s with
          opc := 0xE0, cursor := s.cursor + 1, avail := s.avail - 1,
          rspq := s.rspq ++ [s.rxbuf.read s.cursor.toNat],
          ev := s.ev ++ [.rsp (s.rxbuf.read s.cursor.toNat)] }) ∧
    encode .recv = .packet [0xE0]
end

