-- ==== Sys2Proof/Laws/State.lean ====
section
/-! SUPPORT. What each elementary update does to each field of State, one lemma a field, so that no later proof unfolds a
record update. -/
namespace Sys2Proof.Machine

@[simp] theorem emit_ctrl (e : Ev) (s : State) : (emit e s).ctrl = s.ctrl := rfl
@[simp] theorem emit_status (e : Ev) (s : State) : (emit e s).status = s.status := rfl
@[simp] theorem emit_data (e : Ev) (s : State) : (emit e s).data = s.data := rfl
@[simp] theorem emit_timeout (e : Ev) (s : State) : (emit e s).timeout = s.timeout := rfl
@[simp] theorem emit_now (e : Ev) (s : State) : (emit e s).now = s.now := rfl
@[simp] theorem emit_t0 (e : Ev) (s : State) : (emit e s).t0 = s.t0 := rfl
@[simp] theorem emit_rc (e : Ev) (s : State) : (emit e s).rc = s.rc := rfl
@[simp] theorem emit_busy (e : Ev) (s : State) : (emit e s).busy = s.busy := rfl
@[simp] theorem emit_cmderr (e : Ev) (s : State) : (emit e s).cmderr = s.cmderr := rfl
@[simp] theorem emit_opc (e : Ev) (s : State) : (emit e s).opc = s.opc := rfl
@[simp] theorem emit_sla (e : Ev) (s : State) : (emit e s).sla = s.sla := rfl
@[simp] theorem emit_sel (e : Ev) (s : State) : (emit e s).sel = s.sel := rfl
@[simp] theorem emit_cnt (e : Ev) (s : State) : (emit e s).cnt = s.cnt := rfl
@[simp] theorem emit_txlen (e : Ev) (s : State) : (emit e s).txlen = s.txlen := rfl
@[simp] theorem emit_txbuf (e : Ev) (s : State) : (emit e s).txbuf = s.txbuf := rfl
@[simp] theorem emit_saved (e : Ev) (s : State) : (emit e s).saved = s.saved := rfl
@[simp] theorem emit_seq (e : Ev) (s : State) : (emit e s).seq = s.seq := rfl
@[simp] theorem emit_outc (e : Ev) (s : State) : (emit e s).outc = s.outc := rfl
@[simp] theorem emit_rxbuf (e : Ev) (s : State) : (emit e s).rxbuf = s.rxbuf := rfl
@[simp] theorem emit_avail (e : Ev) (s : State) : (emit e s).avail = s.avail := rfl
@[simp] theorem emit_cursor (e : Ev) (s : State) : (emit e s).cursor = s.cursor := rfl
@[simp] theorem emit_total (e : Ev) (s : State) : (emit e s).total = s.total := rfl
@[simp] theorem emit_held (e : Ev) (s : State) : (emit e s).held = s.held := rfl
@[simp] theorem emit_mode (e : Ev) (s : State) : (emit e s).mode = s.mode := rfl
@[simp] theorem emit_pend (e : Ev) (s : State) : (emit e s).pend = s.pend := rfl
@[simp] theorem emit_line (e : Ev) (s : State) : (emit e s).line = s.line := rfl
@[simp] theorem emit_cmdq (e : Ev) (s : State) : (emit e s).cmdq = s.cmdq := rfl
@[simp] theorem emit_rspq (e : Ev) (s : State) : (emit e s).rspq = s.rspq := rfl
@[simp] theorem emit_rxout (e : Ev) (s : State) : (emit e s).rxout = s.rxout := rfl
@[simp] theorem emit_ev (e : Ev) (s : State) : (emit e s).ev = s.ev ++ [e] := rfl
@[simp] theorem emit_script (e : Ev) (s : State) : (emit e s).script = s.script := rfl
@[simp] theorem emit_free (e : Ev) (s : State) : (emit e s).free = s.free := rfl
@[simp] theorem emit_cfg (e : Ev) (s : State) : (emit e s).cfg = s.cfg := rfl

@[simp] theorem freshStatus_ctrl (s : State) : (freshStatus s).ctrl = s.ctrl := rfl
@[simp] theorem freshStatus_status (s : State) : (freshStatus s).status = Config.freeByte s.free := rfl
@[simp] theorem freshStatus_data (s : State) : (freshStatus s).data = s.data := rfl
@[simp] theorem freshStatus_timeout (s : State) : (freshStatus s).timeout = s.timeout := rfl
@[simp] theorem freshStatus_now (s : State) : (freshStatus s).now = s.now := rfl
@[simp] theorem freshStatus_t0 (s : State) : (freshStatus s).t0 = s.t0 := rfl
@[simp] theorem freshStatus_rc (s : State) : (freshStatus s).rc = s.rc := rfl
@[simp] theorem freshStatus_busy (s : State) : (freshStatus s).busy = s.busy := rfl
@[simp] theorem freshStatus_cmderr (s : State) : (freshStatus s).cmderr = s.cmderr := rfl
@[simp] theorem freshStatus_opc (s : State) : (freshStatus s).opc = s.opc := rfl
@[simp] theorem freshStatus_sla (s : State) : (freshStatus s).sla = s.sla := rfl
@[simp] theorem freshStatus_sel (s : State) : (freshStatus s).sel = s.sel := rfl
@[simp] theorem freshStatus_cnt (s : State) : (freshStatus s).cnt = s.cnt := rfl
@[simp] theorem freshStatus_txlen (s : State) : (freshStatus s).txlen = s.txlen := rfl
@[simp] theorem freshStatus_txbuf (s : State) : (freshStatus s).txbuf = s.txbuf := rfl
@[simp] theorem freshStatus_saved (s : State) : (freshStatus s).saved = s.saved := rfl
@[simp] theorem freshStatus_seq (s : State) : (freshStatus s).seq = s.seq := rfl
@[simp] theorem freshStatus_outc (s : State) : (freshStatus s).outc = s.outc := rfl
@[simp] theorem freshStatus_rxbuf (s : State) : (freshStatus s).rxbuf = s.rxbuf := rfl
@[simp] theorem freshStatus_avail (s : State) : (freshStatus s).avail = s.avail := rfl
@[simp] theorem freshStatus_cursor (s : State) : (freshStatus s).cursor = s.cursor := rfl
@[simp] theorem freshStatus_total (s : State) : (freshStatus s).total = s.total := rfl
@[simp] theorem freshStatus_held (s : State) : (freshStatus s).held = s.held := rfl
@[simp] theorem freshStatus_mode (s : State) : (freshStatus s).mode = s.mode := rfl
@[simp] theorem freshStatus_pend (s : State) : (freshStatus s).pend = s.pend := rfl
@[simp] theorem freshStatus_line (s : State) : (freshStatus s).line = s.line := rfl
@[simp] theorem freshStatus_cmdq (s : State) : (freshStatus s).cmdq = s.cmdq := rfl
@[simp] theorem freshStatus_rspq (s : State) : (freshStatus s).rspq = s.rspq := rfl
@[simp] theorem freshStatus_rxout (s : State) : (freshStatus s).rxout = s.rxout := rfl
@[simp] theorem freshStatus_ev (s : State) : (freshStatus s).ev = s.ev := rfl
@[simp] theorem freshStatus_script (s : State) : (freshStatus s).script = s.script := rfl
@[simp] theorem freshStatus_free (s : State) : (freshStatus s).free = s.free + 1 := rfl
@[simp] theorem freshStatus_cfg (s : State) : (freshStatus s).cfg = s.cfg := rfl

@[simp] theorem gotoPhase_ctrl (m : Mph) (s : State) : (gotoPhase m s).ctrl = s.ctrl := rfl
@[simp] theorem gotoPhase_status (m : Mph) (s : State) : (gotoPhase m s).status = s.status := rfl
@[simp] theorem gotoPhase_data (m : Mph) (s : State) : (gotoPhase m s).data = s.data := rfl
@[simp] theorem gotoPhase_timeout (m : Mph) (s : State) : (gotoPhase m s).timeout = s.timeout := rfl
@[simp] theorem gotoPhase_now (m : Mph) (s : State) : (gotoPhase m s).now = s.now := rfl
@[simp] theorem gotoPhase_t0 (m : Mph) (s : State) : (gotoPhase m s).t0 = s.t0 := rfl
@[simp] theorem gotoPhase_rc (m : Mph) (s : State) : (gotoPhase m s).rc = s.rc := rfl
@[simp] theorem gotoPhase_busy (m : Mph) (s : State) : (gotoPhase m s).busy = s.busy := rfl
@[simp] theorem gotoPhase_cmderr (m : Mph) (s : State) : (gotoPhase m s).cmderr = s.cmderr := rfl
@[simp] theorem gotoPhase_opc (m : Mph) (s : State) : (gotoPhase m s).opc = s.opc := rfl
@[simp] theorem gotoPhase_sla (m : Mph) (s : State) : (gotoPhase m s).sla = s.sla := rfl
@[simp] theorem gotoPhase_sel (m : Mph) (s : State) : (gotoPhase m s).sel = s.sel := rfl
@[simp] theorem gotoPhase_cnt (m : Mph) (s : State) : (gotoPhase m s).cnt = s.cnt := rfl
@[simp] theorem gotoPhase_txlen (m : Mph) (s : State) : (gotoPhase m s).txlen = s.txlen := rfl
@[simp] theorem gotoPhase_txbuf (m : Mph) (s : State) : (gotoPhase m s).txbuf = s.txbuf := rfl
@[simp] theorem gotoPhase_saved (m : Mph) (s : State) : (gotoPhase m s).saved = s.saved := rfl
@[simp] theorem gotoPhase_seq (m : Mph) (s : State) : (gotoPhase m s).seq = { s.seq with mph := m } := rfl
@[simp] theorem gotoPhase_outc (m : Mph) (s : State) : (gotoPhase m s).outc = s.outc := rfl
@[simp] theorem gotoPhase_rxbuf (m : Mph) (s : State) : (gotoPhase m s).rxbuf = s.rxbuf := rfl
@[simp] theorem gotoPhase_avail (m : Mph) (s : State) : (gotoPhase m s).avail = s.avail := rfl
@[simp] theorem gotoPhase_cursor (m : Mph) (s : State) : (gotoPhase m s).cursor = s.cursor := rfl
@[simp] theorem gotoPhase_total (m : Mph) (s : State) : (gotoPhase m s).total = s.total := rfl
@[simp] theorem gotoPhase_held (m : Mph) (s : State) : (gotoPhase m s).held = s.held := rfl
@[simp] theorem gotoPhase_mode (m : Mph) (s : State) : (gotoPhase m s).mode = s.mode := rfl
@[simp] theorem gotoPhase_pend (m : Mph) (s : State) : (gotoPhase m s).pend = s.pend := rfl
@[simp] theorem gotoPhase_line (m : Mph) (s : State) : (gotoPhase m s).line = s.line := rfl
@[simp] theorem gotoPhase_cmdq (m : Mph) (s : State) : (gotoPhase m s).cmdq = s.cmdq := rfl
@[simp] theorem gotoPhase_rspq (m : Mph) (s : State) : (gotoPhase m s).rspq = s.rspq := rfl
@[simp] theorem gotoPhase_rxout (m : Mph) (s : State) : (gotoPhase m s).rxout = s.rxout := rfl
@[simp] theorem gotoPhase_ev (m : Mph) (s : State) : (gotoPhase m s).ev = s.ev := rfl
@[simp] theorem gotoPhase_script (m : Mph) (s : State) : (gotoPhase m s).script = s.script := rfl
@[simp] theorem gotoPhase_free (m : Mph) (s : State) : (gotoPhase m s).free = s.free := rfl
@[simp] theorem gotoPhase_cfg (m : Mph) (s : State) : (gotoPhase m s).cfg = s.cfg := rfl

@[simp] theorem dataWrite_ctrl (b : Byte) (s : State) : (dataWrite b s).ctrl = s.ctrl := rfl
@[simp] theorem dataWrite_status (b : Byte) (s : State) : (dataWrite b s).status = s.status := rfl
@[simp] theorem dataWrite_data (b : Byte) (s : State) : (dataWrite b s).data = b := rfl
@[simp] theorem dataWrite_timeout (b : Byte) (s : State) : (dataWrite b s).timeout = s.timeout := rfl
@[simp] theorem dataWrite_now (b : Byte) (s : State) : (dataWrite b s).now = s.now := rfl
@[simp] theorem dataWrite_t0 (b : Byte) (s : State) : (dataWrite b s).t0 = s.t0 := rfl
@[simp] theorem dataWrite_rc (b : Byte) (s : State) : (dataWrite b s).rc = s.rc := rfl
@[simp] theorem dataWrite_busy (b : Byte) (s : State) : (dataWrite b s).busy = s.busy := rfl
@[simp] theorem dataWrite_cmderr (b : Byte) (s : State) : (dataWrite b s).cmderr = s.cmderr := rfl
@[simp] theorem dataWrite_opc (b : Byte) (s : State) : (dataWrite b s).opc = s.opc := rfl
@[simp] theorem dataWrite_sla (b : Byte) (s : State) : (dataWrite b s).sla = s.sla := rfl
@[simp] theorem dataWrite_sel (b : Byte) (s : State) : (dataWrite b s).sel = s.sel := rfl
@[simp] theorem dataWrite_cnt (b : Byte) (s : State) : (dataWrite b s).cnt = s.cnt := rfl
@[simp] theorem dataWrite_txlen (b : Byte) (s : State) : (dataWrite b s).txlen = s.txlen := rfl
@[simp] theorem dataWrite_txbuf (b : Byte) (s : State) : (dataWrite b s).txbuf = s.txbuf := rfl
@[simp] theorem dataWrite_saved (b : Byte) (s : State) : (dataWrite b s).saved = s.saved := rfl
@[simp] theorem dataWrite_seq (b : Byte) (s : State) : (dataWrite b s).seq = s.seq := rfl
@[simp] theorem dataWrite_outc (b : Byte) (s : State) : (dataWrite b s).outc = s.outc := rfl
@[simp] theorem dataWrite_rxbuf (b : Byte) (s : State) : (dataWrite b s).rxbuf = s.rxbuf := rfl
@[simp] theorem dataWrite_avail (b : Byte) (s : State) : (dataWrite b s).avail = s.avail := rfl
@[simp] theorem dataWrite_cursor (b : Byte) (s : State) : (dataWrite b s).cursor = s.cursor := rfl
@[simp] theorem dataWrite_total (b : Byte) (s : State) : (dataWrite b s).total = s.total := rfl
@[simp] theorem dataWrite_held (b : Byte) (s : State) : (dataWrite b s).held = s.held := rfl
@[simp] theorem dataWrite_mode (b : Byte) (s : State) : (dataWrite b s).mode = s.mode := rfl
@[simp] theorem dataWrite_pend (b : Byte) (s : State) : (dataWrite b s).pend = s.pend := rfl
@[simp] theorem dataWrite_line (b : Byte) (s : State) : (dataWrite b s).line = s.line := rfl
@[simp] theorem dataWrite_cmdq (b : Byte) (s : State) : (dataWrite b s).cmdq = s.cmdq := rfl
@[simp] theorem dataWrite_rspq (b : Byte) (s : State) : (dataWrite b s).rspq = s.rspq := rfl
@[simp] theorem dataWrite_rxout (b : Byte) (s : State) : (dataWrite b s).rxout = s.rxout := rfl
@[simp] theorem dataWrite_ev (b : Byte) (s : State) : (dataWrite b s).ev = s.ev ++ [.data b] := rfl
@[simp] theorem dataWrite_script (b : Byte) (s : State) : (dataWrite b s).script = s.script := rfl
@[simp] theorem dataWrite_free (b : Byte) (s : State) : (dataWrite b s).free = s.free := rfl
@[simp] theorem dataWrite_cfg (b : Byte) (s : State) : (dataWrite b s).cfg = s.cfg := rfl

@[simp] theorem rxAppend_ctrl (b : Byte) (s : State) : (rxAppend b s).ctrl = s.ctrl := rfl
@[simp] theorem rxAppend_status (b : Byte) (s : State) : (rxAppend b s).status = s.status := rfl
@[simp] theorem rxAppend_data (b : Byte) (s : State) : (rxAppend b s).data = s.data := rfl
@[simp] theorem rxAppend_timeout (b : Byte) (s : State) : (rxAppend b s).timeout = s.timeout := rfl
@[simp] theorem rxAppend_now (b : Byte) (s : State) : (rxAppend b s).now = s.now := rfl
@[simp] theorem rxAppend_t0 (b : Byte) (s : State) : (rxAppend b s).t0 = s.t0 := rfl
@[simp] theorem rxAppend_rc (b : Byte) (s : State) : (rxAppend b s).rc = s.rc := rfl
@[simp] theorem rxAppend_busy (b : Byte) (s : State) : (rxAppend b s).busy = s.busy := rfl
@[simp] theorem rxAppend_cmderr (b : Byte) (s : State) : (rxAppend b s).cmderr = s.cmderr := rfl
@[simp] theorem rxAppend_opc (b : Byte) (s : State) : (rxAppend b s).opc = s.opc := rfl
@[simp] theorem rxAppend_sla (b : Byte) (s : State) : (rxAppend b s).sla = s.sla := rfl
@[simp] theorem rxAppend_sel (b : Byte) (s : State) : (rxAppend b s).sel = s.sel := rfl
@[simp] theorem rxAppend_cnt (b : Byte) (s : State) : (rxAppend b s).cnt = s.cnt := rfl
@[simp] theorem rxAppend_txlen (b : Byte) (s : State) : (rxAppend b s).txlen = s.txlen := rfl
@[simp] theorem rxAppend_txbuf (b : Byte) (s : State) : (rxAppend b s).txbuf = s.txbuf := rfl
@[simp] theorem rxAppend_saved (b : Byte) (s : State) : (rxAppend b s).saved = s.saved := rfl
@[simp] theorem rxAppend_seq (b : Byte) (s : State) : (rxAppend b s).seq = s.seq := rfl
@[simp] theorem rxAppend_outc (b : Byte) (s : State) : (rxAppend b s).outc = s.outc := rfl
@[simp] theorem rxAppend_rxbuf (b : Byte) (s : State) : (rxAppend b s).rxbuf = s.rxbuf := rfl
@[simp] theorem rxAppend_avail (b : Byte) (s : State) : (rxAppend b s).avail = s.avail := rfl
@[simp] theorem rxAppend_cursor (b : Byte) (s : State) : (rxAppend b s).cursor = s.cursor := rfl
@[simp] theorem rxAppend_total (b : Byte) (s : State) : (rxAppend b s).total = s.total := rfl
@[simp] theorem rxAppend_held (b : Byte) (s : State) : (rxAppend b s).held = s.held := rfl
@[simp] theorem rxAppend_mode (b : Byte) (s : State) : (rxAppend b s).mode = s.mode := rfl
@[simp] theorem rxAppend_pend (b : Byte) (s : State) : (rxAppend b s).pend = s.pend := rfl
@[simp] theorem rxAppend_line (b : Byte) (s : State) : (rxAppend b s).line = s.line := rfl
@[simp] theorem rxAppend_cmdq (b : Byte) (s : State) : (rxAppend b s).cmdq = s.cmdq := rfl
@[simp] theorem rxAppend_rspq (b : Byte) (s : State) : (rxAppend b s).rspq = s.rspq := rfl
@[simp] theorem rxAppend_rxout (b : Byte) (s : State) : (rxAppend b s).rxout = s.rxout ++ [b] := rfl
@[simp] theorem rxAppend_ev (b : Byte) (s : State) : (rxAppend b s).ev = s.ev ++ [.rx b] := rfl
@[simp] theorem rxAppend_script (b : Byte) (s : State) : (rxAppend b s).script = s.script := rfl
@[simp] theorem rxAppend_free (b : Byte) (s : State) : (rxAppend b s).free = s.free := rfl
@[simp] theorem rxAppend_cfg (b : Byte) (s : State) : (rxAppend b s).cfg = s.cfg := rfl

@[simp] theorem respond_ctrl (b : Byte) (s : State) : (respond b s).ctrl = s.ctrl := rfl
@[simp] theorem respond_status (b : Byte) (s : State) : (respond b s).status = s.status := rfl
@[simp] theorem respond_data (b : Byte) (s : State) : (respond b s).data = s.data := rfl
@[simp] theorem respond_timeout (b : Byte) (s : State) : (respond b s).timeout = s.timeout := rfl
@[simp] theorem respond_now (b : Byte) (s : State) : (respond b s).now = s.now := rfl
@[simp] theorem respond_t0 (b : Byte) (s : State) : (respond b s).t0 = s.t0 := rfl
@[simp] theorem respond_rc (b : Byte) (s : State) : (respond b s).rc = s.rc := rfl
@[simp] theorem respond_busy (b : Byte) (s : State) : (respond b s).busy = false := rfl
@[simp] theorem respond_cmderr (b : Byte) (s : State) : (respond b s).cmderr = s.cmderr := rfl
@[simp] theorem respond_opc (b : Byte) (s : State) : (respond b s).opc = s.opc := rfl
@[simp] theorem respond_sla (b : Byte) (s : State) : (respond b s).sla = s.sla := rfl
@[simp] theorem respond_sel (b : Byte) (s : State) : (respond b s).sel = s.sel := rfl
@[simp] theorem respond_cnt (b : Byte) (s : State) : (respond b s).cnt = s.cnt := rfl
@[simp] theorem respond_txlen (b : Byte) (s : State) : (respond b s).txlen = s.txlen := rfl
@[simp] theorem respond_txbuf (b : Byte) (s : State) : (respond b s).txbuf = s.txbuf := rfl
@[simp] theorem respond_saved (b : Byte) (s : State) : (respond b s).saved = s.saved := rfl
@[simp] theorem respond_seq (b : Byte) (s : State) : (respond b s).seq = s.seq := rfl
@[simp] theorem respond_outc (b : Byte) (s : State) : (respond b s).outc = s.outc := rfl
@[simp] theorem respond_rxbuf (b : Byte) (s : State) : (respond b s).rxbuf = s.rxbuf := rfl
@[simp] theorem respond_avail (b : Byte) (s : State) : (respond b s).avail = s.avail := rfl
@[simp] theorem respond_cursor (b : Byte) (s : State) : (respond b s).cursor = s.cursor := rfl
@[simp] theorem respond_total (b : Byte) (s : State) : (respond b s).total = s.total := rfl
@[simp] theorem respond_held (b : Byte) (s : State) : (respond b s).held = s.held := rfl
@[simp] theorem respond_mode (b : Byte) (s : State) : (respond b s).mode = s.mode := rfl
@[simp] theorem respond_pend (b : Byte) (s : State) : (respond b s).pend = s.pend := rfl
@[simp] theorem respond_line (b : Byte) (s : State) : (respond b s).line = s.line := rfl
@[simp] theorem respond_cmdq (b : Byte) (s : State) : (respond b s).cmdq = s.cmdq := rfl
@[simp] theorem respond_rspq (b : Byte) (s : State) : (respond b s).rspq = s.rspq ++ [b] := rfl
@[simp] theorem respond_rxout (b : Byte) (s : State) : (respond b s).rxout = s.rxout := rfl
@[simp] theorem respond_ev (b : Byte) (s : State) : (respond b s).ev = s.ev ++ [.rsp b] := rfl
@[simp] theorem respond_script (b : Byte) (s : State) : (respond b s).script = s.script := rfl
@[simp] theorem respond_free (b : Byte) (s : State) : (respond b s).free = s.free := rfl
@[simp] theorem respond_cfg (b : Byte) (s : State) : (respond b s).cfg = s.cfg := rfl

@[simp] theorem finish_ctrl (c : Byte) (s : State) : (finish c s).ctrl = s.ctrl := rfl
@[simp] theorem finish_status (c : Byte) (s : State) : (finish c s).status = s.status := rfl
@[simp] theorem finish_data (c : Byte) (s : State) : (finish c s).data = s.data := rfl
@[simp] theorem finish_timeout (c : Byte) (s : State) : (finish c s).timeout = s.timeout := rfl
@[simp] theorem finish_now (c : Byte) (s : State) : (finish c s).now = s.now := rfl
@[simp] theorem finish_t0 (c : Byte) (s : State) : (finish c s).t0 = s.t0 := rfl
@[simp] theorem finish_rc (c : Byte) (s : State) : (finish c s).rc = c := rfl
@[simp] theorem finish_busy (c : Byte) (s : State) : (finish c s).busy = false := rfl
@[simp] theorem finish_cmderr (c : Byte) (s : State) : (finish c s).cmderr = s.cmderr := rfl
@[simp] theorem finish_opc (c : Byte) (s : State) : (finish c s).opc = s.opc := rfl
@[simp] theorem finish_sla (c : Byte) (s : State) : (finish c s).sla = s.sla := rfl
@[simp] theorem finish_sel (c : Byte) (s : State) : (finish c s).sel = s.sel := rfl
@[simp] theorem finish_cnt (c : Byte) (s : State) : (finish c s).cnt = s.cnt := rfl
@[simp] theorem finish_txlen (c : Byte) (s : State) : (finish c s).txlen = s.txlen := rfl
@[simp] theorem finish_txbuf (c : Byte) (s : State) : (finish c s).txbuf = s.txbuf := rfl
@[simp] theorem finish_saved (c : Byte) (s : State) : (finish c s).saved = s.saved := rfl
@[simp] theorem finish_seq (c : Byte) (s : State) : (finish c s).seq = SeqPtr.rest := rfl
@[simp] theorem finish_outc (c : Byte) (s : State) : (finish c s).outc = s.outc := rfl
@[simp] theorem finish_rxbuf (c : Byte) (s : State) : (finish c s).rxbuf = s.rxbuf := rfl
@[simp] theorem finish_avail (c : Byte) (s : State) : (finish c s).avail = s.avail := rfl
@[simp] theorem finish_cursor (c : Byte) (s : State) : (finish c s).cursor = s.cursor := rfl
@[simp] theorem finish_total (c : Byte) (s : State) : (finish c s).total = s.total := rfl
@[simp] theorem finish_held (c : Byte) (s : State) : (finish c s).held = s.held := rfl
@[simp] theorem finish_mode (c : Byte) (s : State) : (finish c s).mode = s.mode := rfl
@[simp] theorem finish_pend (c : Byte) (s : State) : (finish c s).pend = s.pend := rfl
@[simp] theorem finish_line (c : Byte) (s : State) : (finish c s).line = s.line := rfl
@[simp] theorem finish_cmdq (c : Byte) (s : State) : (finish c s).cmdq = s.cmdq := rfl
@[simp] theorem finish_rspq (c : Byte) (s : State) : (finish c s).rspq = s.rspq ++ [c] := rfl
@[simp] theorem finish_rxout (c : Byte) (s : State) : (finish c s).rxout = s.rxout := rfl
@[simp] theorem finish_ev (c : Byte) (s : State) : (finish c s).ev = s.ev ++ [.rsp c] := rfl
@[simp] theorem finish_script (c : Byte) (s : State) : (finish c s).script = s.script := rfl
@[simp] theorem finish_free (c : Byte) (s : State) : (finish c s).free = s.free := rfl
@[simp] theorem finish_cfg (c : Byte) (s : State) : (finish c s).cfg = s.cfg := rfl

@[simp] theorem takeFailure_ctrl (o : PrimResult) (s : State) : (takeFailure o s).ctrl = s.ctrl := rfl
@[simp] theorem takeFailure_status (o : PrimResult) (s : State) : (takeFailure o s).status = s.status := rfl
@[simp] theorem takeFailure_data (o : PrimResult) (s : State) : (takeFailure o s).data = s.data := rfl
@[simp] theorem takeFailure_timeout (o : PrimResult) (s : State) : (takeFailure o s).timeout = s.timeout := rfl
@[simp] theorem takeFailure_now (o : PrimResult) (s : State) : (takeFailure o s).now = s.now := rfl
@[simp] theorem takeFailure_t0 (o : PrimResult) (s : State) : (takeFailure o s).t0 = s.t0 := rfl
@[simp] theorem takeFailure_rc (o : PrimResult) (s : State) : (takeFailure o s).rc = s.rc := rfl
@[simp] theorem takeFailure_busy (o : PrimResult) (s : State) : (takeFailure o s).busy = s.busy := rfl
@[simp] theorem takeFailure_cmderr (o : PrimResult) (s : State) : (takeFailure o s).cmderr = s.cmderr := rfl
@[simp] theorem takeFailure_opc (o : PrimResult) (s : State) : (takeFailure o s).opc = s.opc := rfl
@[simp] theorem takeFailure_sla (o : PrimResult) (s : State) : (takeFailure o s).sla = s.sla := rfl
@[simp] theorem takeFailure_sel (o : PrimResult) (s : State) : (takeFailure o s).sel = s.sel := rfl
@[simp] theorem takeFailure_cnt (o : PrimResult) (s : State) : (takeFailure o s).cnt = s.cnt := rfl
@[simp] theorem takeFailure_txlen (o : PrimResult) (s : State) : (takeFailure o s).txlen = s.txlen := rfl
@[simp] theorem takeFailure_txbuf (o : PrimResult) (s : State) : (takeFailure o s).txbuf = s.txbuf := rfl
@[simp] theorem takeFailure_saved (o : PrimResult) (s : State) : (takeFailure o s).saved = s.saved := rfl
@[simp] theorem takeFailure_seq (o : PrimResult) (s : State) :
    (takeFailure o s).seq = { s.seq with mph := .lock0 } := rfl
@[simp] theorem takeFailure_outc (o : PrimResult) (s : State) : (takeFailure o s).outc = o := rfl
@[simp] theorem takeFailure_rxbuf (o : PrimResult) (s : State) : (takeFailure o s).rxbuf = s.rxbuf := rfl
@[simp] theorem takeFailure_avail (o : PrimResult) (s : State) : (takeFailure o s).avail = s.avail := rfl
@[simp] theorem takeFailure_cursor (o : PrimResult) (s : State) : (takeFailure o s).cursor = s.cursor := rfl
@[simp] theorem takeFailure_total (o : PrimResult) (s : State) : (takeFailure o s).total = s.total := rfl
@[simp] theorem takeFailure_held (o : PrimResult) (s : State) : (takeFailure o s).held = s.held := rfl
@[simp] theorem takeFailure_mode (o : PrimResult) (s : State) : (takeFailure o s).mode = s.mode := rfl
@[simp] theorem takeFailure_pend (o : PrimResult) (s : State) : (takeFailure o s).pend = s.pend := rfl
@[simp] theorem takeFailure_line (o : PrimResult) (s : State) : (takeFailure o s).line = s.line := rfl
@[simp] theorem takeFailure_cmdq (o : PrimResult) (s : State) : (takeFailure o s).cmdq = s.cmdq := rfl
@[simp] theorem takeFailure_rspq (o : PrimResult) (s : State) : (takeFailure o s).rspq = s.rspq := rfl
@[simp] theorem takeFailure_rxout (o : PrimResult) (s : State) : (takeFailure o s).rxout = s.rxout := rfl
@[simp] theorem takeFailure_ev (o : PrimResult) (s : State) : (takeFailure o s).ev = s.ev := rfl
@[simp] theorem takeFailure_script (o : PrimResult) (s : State) : (takeFailure o s).script = s.script := rfl
@[simp] theorem takeFailure_free (o : PrimResult) (s : State) : (takeFailure o s).free = s.free := rfl
@[simp] theorem takeFailure_cfg (o : PrimResult) (s : State) : (takeFailure o s).cfg = s.cfg := rfl

@[simp] theorem beginStep_ctrl (t : TStep) (g : Seg) (i : Byte) (s : State) : (beginStep t g i s).ctrl = s.ctrl := rfl
@[simp] theorem beginStep_status (t : TStep) (g : Seg) (i : Byte) (s : State) :
    (beginStep t g i s).status = s.status := rfl
@[simp] theorem beginStep_data (t : TStep) (g : Seg) (i : Byte) (s : State) : (beginStep t g i s).data = s.data := rfl
@[simp] theorem beginStep_timeout (t : TStep) (g : Seg) (i : Byte) (s : State) :
    (beginStep t g i s).timeout = s.timeout := rfl
@[simp] theorem beginStep_now (t : TStep) (g : Seg) (i : Byte) (s : State) : (beginStep t g i s).now = s.now := rfl
@[simp] theorem beginStep_t0 (t : TStep) (g : Seg) (i : Byte) (s : State) : (beginStep t g i s).t0 = s.t0 := rfl
@[simp] theorem beginStep_rc (t : TStep) (g : Seg) (i : Byte) (s : State) : (beginStep t g i s).rc = s.rc := rfl
@[simp] theorem beginStep_busy (t : TStep) (g : Seg) (i : Byte) (s : State) : (beginStep t g i s).busy = s.busy := rfl
@[simp] theorem beginStep_cmderr (t : TStep) (g : Seg) (i : Byte) (s : State) :
    (beginStep t g i s).cmderr = s.cmderr := rfl
@[simp] theorem beginStep_opc (t : TStep) (g : Seg) (i : Byte) (s : State) : (beginStep t g i s).opc = s.opc := rfl
@[simp] theorem beginStep_sla (t : TStep) (g : Seg) (i : Byte) (s : State) : (beginStep t g i s).sla = s.sla := rfl
@[simp] theorem beginStep_sel (t : TStep) (g : Seg) (i : Byte) (s : State) : (beginStep t g i s).sel = s.sel := rfl
@[simp] theorem beginStep_cnt (t : TStep) (g : Seg) (i : Byte) (s : State) : (beginStep t g i s).cnt = s.cnt := rfl
@[simp] theorem beginStep_txlen (t : TStep) (g : Seg) (i : Byte) (s : State) :
    (beginStep t g i s).txlen = s.txlen := rfl
@[simp] theorem beginStep_txbuf (t : TStep) (g : Seg) (i : Byte) (s : State) :
    (beginStep t g i s).txbuf = s.txbuf := rfl
@[simp] theorem beginStep_saved (t : TStep) (g : Seg) (i : Byte) (s : State) :
    (beginStep t g i s).saved = s.saved := rfl
@[simp] theorem beginStep_seq (t : TStep) (g : Seg) (i : Byte) (s : State) :
    (beginStep t g i s).seq = { tstep := t, mph := firstPhase t, idx := i, nstop := false, seg := g } := rfl
@[simp] theorem beginStep_outc (t : TStep) (g : Seg) (i : Byte) (s : State) : (beginStep t g i s).outc = s.outc := rfl
@[simp] theorem beginStep_rxbuf (t : TStep) (g : Seg) (i : Byte) (s : State) :
    (beginStep t g i s).rxbuf = s.rxbuf := rfl
@[simp] theorem beginStep_avail (t : TStep) (g : Seg) (i : Byte) (s : State) :
    (beginStep t g i s).avail = s.avail := rfl
@[simp] theorem beginStep_cursor (t : TStep) (g : Seg) (i : Byte) (s : State) :
    (beginStep t g i s).cursor = s.cursor := rfl
@[simp] theorem beginStep_total (t : TStep) (g : Seg) (i : Byte) (s : State) :
    (beginStep t g i s).total = s.total := rfl
@[simp] theorem beginStep_held (t : TStep) (g : Seg) (i : Byte) (s : State) : (beginStep t g i s).held = s.held := rfl
@[simp] theorem beginStep_mode (t : TStep) (g : Seg) (i : Byte) (s : State) : (beginStep t g i s).mode = s.mode := rfl
@[simp] theorem beginStep_pend (t : TStep) (g : Seg) (i : Byte) (s : State) : (beginStep t g i s).pend = s.pend := rfl
@[simp] theorem beginStep_line (t : TStep) (g : Seg) (i : Byte) (s : State) : (beginStep t g i s).line = s.line := rfl
@[simp] theorem beginStep_cmdq (t : TStep) (g : Seg) (i : Byte) (s : State) : (beginStep t g i s).cmdq = s.cmdq := rfl
@[simp] theorem beginStep_rspq (t : TStep) (g : Seg) (i : Byte) (s : State) : (beginStep t g i s).rspq = s.rspq := rfl
@[simp] theorem beginStep_rxout (t : TStep) (g : Seg) (i : Byte) (s : State) :
    (beginStep t g i s).rxout = s.rxout := rfl
@[simp] theorem beginStep_ev (t : TStep) (g : Seg) (i : Byte) (s : State) : (beginStep t g i s).ev = s.ev := rfl
@[simp] theorem beginStep_script (t : TStep) (g : Seg) (i : Byte) (s : State) :
    (beginStep t g i s).script = s.script := rfl
@[simp] theorem beginStep_free (t : TStep) (g : Seg) (i : Byte) (s : State) : (beginStep t g i s).free = s.free := rfl
@[simp] theorem beginStep_cfg (t : TStep) (g : Seg) (i : Byte) (s : State) : (beginStep t g i s).cfg = s.cfg := rfl

@[simp] theorem latchOpc_ctrl (o : Op) (s : State) : (latchOpc o s).ctrl = s.ctrl := rfl
@[simp] theorem latchOpc_status (o : Op) (s : State) : (latchOpc o s).status = s.status := rfl
@[simp] theorem latchOpc_data (o : Op) (s : State) : (latchOpc o s).data = s.data := rfl
@[simp] theorem latchOpc_timeout (o : Op) (s : State) : (latchOpc o s).timeout = s.timeout := rfl
@[simp] theorem latchOpc_now (o : Op) (s : State) : (latchOpc o s).now = s.now := rfl
@[simp] theorem latchOpc_t0 (o : Op) (s : State) : (latchOpc o s).t0 = s.t0 := rfl
@[simp] theorem latchOpc_rc (o : Op) (s : State) : (latchOpc o s).rc = s.rc := rfl
@[simp] theorem latchOpc_busy (o : Op) (s : State) : (latchOpc o s).busy = true := rfl
@[simp] theorem latchOpc_cmderr (o : Op) (s : State) : (latchOpc o s).cmderr = s.cmderr := rfl
@[simp] theorem latchOpc_opc (o : Op) (s : State) : (latchOpc o s).opc = o.byte := rfl
@[simp] theorem latchOpc_sla (o : Op) (s : State) : (latchOpc o s).sla = s.sla := rfl
@[simp] theorem latchOpc_sel (o : Op) (s : State) : (latchOpc o s).sel = s.sel := rfl
@[simp] theorem latchOpc_cnt (o : Op) (s : State) : (latchOpc o s).cnt = s.cnt := rfl
@[simp] theorem latchOpc_txlen (o : Op) (s : State) : (latchOpc o s).txlen = s.txlen := rfl
@[simp] theorem latchOpc_txbuf (o : Op) (s : State) : (latchOpc o s).txbuf = s.txbuf := rfl
@[simp] theorem latchOpc_saved (o : Op) (s : State) : (latchOpc o s).saved = s.saved := rfl
@[simp] theorem latchOpc_seq (o : Op) (s : State) : (latchOpc o s).seq = s.seq := rfl
@[simp] theorem latchOpc_outc (o : Op) (s : State) : (latchOpc o s).outc = s.outc := rfl
@[simp] theorem latchOpc_rxbuf (o : Op) (s : State) : (latchOpc o s).rxbuf = s.rxbuf := rfl
@[simp] theorem latchOpc_avail (o : Op) (s : State) : (latchOpc o s).avail = s.avail := rfl
@[simp] theorem latchOpc_cursor (o : Op) (s : State) : (latchOpc o s).cursor = s.cursor := rfl
@[simp] theorem latchOpc_total (o : Op) (s : State) : (latchOpc o s).total = s.total := rfl
@[simp] theorem latchOpc_held (o : Op) (s : State) : (latchOpc o s).held = s.held := rfl
@[simp] theorem latchOpc_mode (o : Op) (s : State) : (latchOpc o s).mode = s.mode := rfl
@[simp] theorem latchOpc_pend (o : Op) (s : State) : (latchOpc o s).pend = s.pend := rfl
@[simp] theorem latchOpc_line (o : Op) (s : State) : (latchOpc o s).line = s.line := rfl
@[simp] theorem latchOpc_cmdq (o : Op) (s : State) : (latchOpc o s).cmdq = s.cmdq := rfl
@[simp] theorem latchOpc_rspq (o : Op) (s : State) : (latchOpc o s).rspq = s.rspq := rfl
@[simp] theorem latchOpc_rxout (o : Op) (s : State) : (latchOpc o s).rxout = s.rxout := rfl
@[simp] theorem latchOpc_ev (o : Op) (s : State) : (latchOpc o s).ev = s.ev := rfl
@[simp] theorem latchOpc_script (o : Op) (s : State) : (latchOpc o s).script = s.script := rfl
@[simp] theorem latchOpc_free (o : Op) (s : State) : (latchOpc o s).free = s.free := rfl
@[simp] theorem latchOpc_cfg (o : Op) (s : State) : (latchOpc o s).cfg = s.cfg := rfl

@[simp] theorem latchSla_ctrl (a : SlaveAddr) (s : State) : (latchSla a s).ctrl = s.ctrl := rfl
@[simp] theorem latchSla_status (a : SlaveAddr) (s : State) : (latchSla a s).status = s.status := rfl
@[simp] theorem latchSla_data (a : SlaveAddr) (s : State) : (latchSla a s).data = s.data := rfl
@[simp] theorem latchSla_timeout (a : SlaveAddr) (s : State) : (latchSla a s).timeout = s.timeout := rfl
@[simp] theorem latchSla_now (a : SlaveAddr) (s : State) : (latchSla a s).now = s.now := rfl
@[simp] theorem latchSla_t0 (a : SlaveAddr) (s : State) : (latchSla a s).t0 = s.t0 := rfl
@[simp] theorem latchSla_rc (a : SlaveAddr) (s : State) : (latchSla a s).rc = s.rc := rfl
@[simp] theorem latchSla_busy (a : SlaveAddr) (s : State) : (latchSla a s).busy = s.busy := rfl
@[simp] theorem latchSla_cmderr (a : SlaveAddr) (s : State) : (latchSla a s).cmderr = s.cmderr := rfl
@[simp] theorem latchSla_opc (a : SlaveAddr) (s : State) : (latchSla a s).opc = s.opc := rfl
@[simp] theorem latchSla_sla (a : SlaveAddr) (s : State) : (latchSla a s).sla = a := rfl
@[simp] theorem latchSla_sel (a : SlaveAddr) (s : State) : (latchSla a s).sel = s.sel := rfl
@[simp] theorem latchSla_cnt (a : SlaveAddr) (s : State) : (latchSla a s).cnt = s.cnt := rfl
@[simp] theorem latchSla_txlen (a : SlaveAddr) (s : State) : (latchSla a s).txlen = s.txlen := rfl
@[simp] theorem latchSla_txbuf (a : SlaveAddr) (s : State) : (latchSla a s).txbuf = s.txbuf := rfl
@[simp] theorem latchSla_saved (a : SlaveAddr) (s : State) : (latchSla a s).saved = s.saved := rfl
@[simp] theorem latchSla_seq (a : SlaveAddr) (s : State) : (latchSla a s).seq = s.seq := rfl
@[simp] theorem latchSla_outc (a : SlaveAddr) (s : State) : (latchSla a s).outc = s.outc := rfl
@[simp] theorem latchSla_rxbuf (a : SlaveAddr) (s : State) : (latchSla a s).rxbuf = s.rxbuf := rfl
@[simp] theorem latchSla_avail (a : SlaveAddr) (s : State) : (latchSla a s).avail = s.avail := rfl
@[simp] theorem latchSla_cursor (a : SlaveAddr) (s : State) : (latchSla a s).cursor = s.cursor := rfl
@[simp] theorem latchSla_total (a : SlaveAddr) (s : State) : (latchSla a s).total = s.total := rfl
@[simp] theorem latchSla_held (a : SlaveAddr) (s : State) : (latchSla a s).held = s.held := rfl
@[simp] theorem latchSla_mode (a : SlaveAddr) (s : State) : (latchSla a s).mode = s.mode := rfl
@[simp] theorem latchSla_pend (a : SlaveAddr) (s : State) : (latchSla a s).pend = s.pend := rfl
@[simp] theorem latchSla_line (a : SlaveAddr) (s : State) : (latchSla a s).line = s.line := rfl
@[simp] theorem latchSla_cmdq (a : SlaveAddr) (s : State) : (latchSla a s).cmdq = s.cmdq := rfl
@[simp] theorem latchSla_rspq (a : SlaveAddr) (s : State) : (latchSla a s).rspq = s.rspq := rfl
@[simp] theorem latchSla_rxout (a : SlaveAddr) (s : State) : (latchSla a s).rxout = s.rxout := rfl
@[simp] theorem latchSla_ev (a : SlaveAddr) (s : State) : (latchSla a s).ev = s.ev := rfl
@[simp] theorem latchSla_script (a : SlaveAddr) (s : State) : (latchSla a s).script = s.script := rfl
@[simp] theorem latchSla_free (a : SlaveAddr) (s : State) : (latchSla a s).free = s.free := rfl
@[simp] theorem latchSla_cfg (a : SlaveAddr) (s : State) : (latchSla a s).cfg = s.cfg := rfl

@[simp] theorem latchSel8_ctrl (e : Byte) (s : State) : (latchSel8 e s).ctrl = s.ctrl := rfl
@[simp] theorem latchSel8_status (e : Byte) (s : State) : (latchSel8 e s).status = s.status := rfl
@[simp] theorem latchSel8_data (e : Byte) (s : State) : (latchSel8 e s).data = s.data := rfl
@[simp] theorem latchSel8_timeout (e : Byte) (s : State) : (latchSel8 e s).timeout = s.timeout := rfl
@[simp] theorem latchSel8_now (e : Byte) (s : State) : (latchSel8 e s).now = s.now := rfl
@[simp] theorem latchSel8_t0 (e : Byte) (s : State) : (latchSel8 e s).t0 = s.t0 := rfl
@[simp] theorem latchSel8_rc (e : Byte) (s : State) : (latchSel8 e s).rc = s.rc := rfl
@[simp] theorem latchSel8_busy (e : Byte) (s : State) : (latchSel8 e s).busy = s.busy := rfl
@[simp] theorem latchSel8_cmderr (e : Byte) (s : State) : (latchSel8 e s).cmderr = s.cmderr := rfl
@[simp] theorem latchSel8_opc (e : Byte) (s : State) : (latchSel8 e s).opc = s.opc := rfl
@[simp] theorem latchSel8_sla (e : Byte) (s : State) : (latchSel8 e s).sla = s.sla := rfl
@[simp] theorem latchSel8_sel (e : Byte) (s : State) : (latchSel8 e s).sel = Config.freeByte s.free ++ e := rfl
@[simp] theorem latchSel8_cnt (e : Byte) (s : State) : (latchSel8 e s).cnt = s.cnt := rfl
@[simp] theorem latchSel8_txlen (e : Byte) (s : State) : (latchSel8 e s).txlen = s.txlen := rfl
@[simp] theorem latchSel8_txbuf (e : Byte) (s : State) : (latchSel8 e s).txbuf = s.txbuf := rfl
@[simp] theorem latchSel8_saved (e : Byte) (s : State) : (latchSel8 e s).saved = s.saved := rfl
@[simp] theorem latchSel8_seq (e : Byte) (s : State) : (latchSel8 e s).seq = s.seq := rfl
@[simp] theorem latchSel8_outc (e : Byte) (s : State) : (latchSel8 e s).outc = s.outc := rfl
@[simp] theorem latchSel8_rxbuf (e : Byte) (s : State) : (latchSel8 e s).rxbuf = s.rxbuf := rfl
@[simp] theorem latchSel8_avail (e : Byte) (s : State) : (latchSel8 e s).avail = s.avail := rfl
@[simp] theorem latchSel8_cursor (e : Byte) (s : State) : (latchSel8 e s).cursor = s.cursor := rfl
@[simp] theorem latchSel8_total (e : Byte) (s : State) : (latchSel8 e s).total = s.total := rfl
@[simp] theorem latchSel8_held (e : Byte) (s : State) : (latchSel8 e s).held = s.held := rfl
@[simp] theorem latchSel8_mode (e : Byte) (s : State) : (latchSel8 e s).mode = s.mode := rfl
@[simp] theorem latchSel8_pend (e : Byte) (s : State) : (latchSel8 e s).pend = s.pend := rfl
@[simp] theorem latchSel8_line (e : Byte) (s : State) : (latchSel8 e s).line = s.line := rfl
@[simp] theorem latchSel8_cmdq (e : Byte) (s : State) : (latchSel8 e s).cmdq = s.cmdq := rfl
@[simp] theorem latchSel8_rspq (e : Byte) (s : State) : (latchSel8 e s).rspq = s.rspq := rfl
@[simp] theorem latchSel8_rxout (e : Byte) (s : State) : (latchSel8 e s).rxout = s.rxout := rfl
@[simp] theorem latchSel8_ev (e : Byte) (s : State) : (latchSel8 e s).ev = s.ev := rfl
@[simp] theorem latchSel8_script (e : Byte) (s : State) : (latchSel8 e s).script = s.script := rfl
@[simp] theorem latchSel8_free (e : Byte) (s : State) : (latchSel8 e s).free = s.free + 1 := rfl
@[simp] theorem latchSel8_cfg (e : Byte) (s : State) : (latchSel8 e s).cfg = s.cfg := rfl

@[simp] theorem latchSel16_ctrl (e : Half) (s : State) : (latchSel16 e s).ctrl = s.ctrl := rfl
@[simp] theorem latchSel16_status (e : Half) (s : State) : (latchSel16 e s).status = s.status := rfl
@[simp] theorem latchSel16_data (e : Half) (s : State) : (latchSel16 e s).data = s.data := rfl
@[simp] theorem latchSel16_timeout (e : Half) (s : State) : (latchSel16 e s).timeout = s.timeout := rfl
@[simp] theorem latchSel16_now (e : Half) (s : State) : (latchSel16 e s).now = s.now := rfl
@[simp] theorem latchSel16_t0 (e : Half) (s : State) : (latchSel16 e s).t0 = s.t0 := rfl
@[simp] theorem latchSel16_rc (e : Half) (s : State) : (latchSel16 e s).rc = s.rc := rfl
@[simp] theorem latchSel16_busy (e : Half) (s : State) : (latchSel16 e s).busy = s.busy := rfl
@[simp] theorem latchSel16_cmderr (e : Half) (s : State) : (latchSel16 e s).cmderr = s.cmderr := rfl
@[simp] theorem latchSel16_opc (e : Half) (s : State) : (latchSel16 e s).opc = s.opc := rfl
@[simp] theorem latchSel16_sla (e : Half) (s : State) : (latchSel16 e s).sla = s.sla := rfl
@[simp] theorem latchSel16_sel (e : Half) (s : State) : (latchSel16 e s).sel = e := rfl
@[simp] theorem latchSel16_cnt (e : Half) (s : State) : (latchSel16 e s).cnt = s.cnt := rfl
@[simp] theorem latchSel16_txlen (e : Half) (s : State) : (latchSel16 e s).txlen = s.txlen := rfl
@[simp] theorem latchSel16_txbuf (e : Half) (s : State) : (latchSel16 e s).txbuf = s.txbuf := rfl
@[simp] theorem latchSel16_saved (e : Half) (s : State) : (latchSel16 e s).saved = s.saved := rfl
@[simp] theorem latchSel16_seq (e : Half) (s : State) : (latchSel16 e s).seq = s.seq := rfl
@[simp] theorem latchSel16_outc (e : Half) (s : State) : (latchSel16 e s).outc = s.outc := rfl
@[simp] theorem latchSel16_rxbuf (e : Half) (s : State) : (latchSel16 e s).rxbuf = s.rxbuf := rfl
@[simp] theorem latchSel16_avail (e : Half) (s : State) : (latchSel16 e s).avail = s.avail := rfl
@[simp] theorem latchSel16_cursor (e : Half) (s : State) : (latchSel16 e s).cursor = s.cursor := rfl
@[simp] theorem latchSel16_total (e : Half) (s : State) : (latchSel16 e s).total = s.total := rfl
@[simp] theorem latchSel16_held (e : Half) (s : State) : (latchSel16 e s).held = s.held := rfl
@[simp] theorem latchSel16_mode (e : Half) (s : State) : (latchSel16 e s).mode = s.mode := rfl
@[simp] theorem latchSel16_pend (e : Half) (s : State) : (latchSel16 e s).pend = s.pend := rfl
@[simp] theorem latchSel16_line (e : Half) (s : State) : (latchSel16 e s).line = s.line := rfl
@[simp] theorem latchSel16_cmdq (e : Half) (s : State) : (latchSel16 e s).cmdq = s.cmdq := rfl
@[simp] theorem latchSel16_rspq (e : Half) (s : State) : (latchSel16 e s).rspq = s.rspq := rfl
@[simp] theorem latchSel16_rxout (e : Half) (s : State) : (latchSel16 e s).rxout = s.rxout := rfl
@[simp] theorem latchSel16_ev (e : Half) (s : State) : (latchSel16 e s).ev = s.ev := rfl
@[simp] theorem latchSel16_script (e : Half) (s : State) : (latchSel16 e s).script = s.script := rfl
@[simp] theorem latchSel16_free (e : Half) (s : State) : (latchSel16 e s).free = s.free := rfl
@[simp] theorem latchSel16_cfg (e : Half) (s : State) : (latchSel16 e s).cfg = s.cfg := rfl

@[simp] theorem latchCnt_ctrl (c : Byte) (s : State) : (latchCnt c s).ctrl = s.ctrl := rfl
@[simp] theorem latchCnt_status (c : Byte) (s : State) : (latchCnt c s).status = s.status := rfl
@[simp] theorem latchCnt_data (c : Byte) (s : State) : (latchCnt c s).data = s.data := rfl
@[simp] theorem latchCnt_timeout (c : Byte) (s : State) : (latchCnt c s).timeout = s.timeout := rfl
@[simp] theorem latchCnt_now (c : Byte) (s : State) : (latchCnt c s).now = s.now := rfl
@[simp] theorem latchCnt_t0 (c : Byte) (s : State) : (latchCnt c s).t0 = s.t0 := rfl
@[simp] theorem latchCnt_rc (c : Byte) (s : State) : (latchCnt c s).rc = s.rc := rfl
@[simp] theorem latchCnt_busy (c : Byte) (s : State) : (latchCnt c s).busy = s.busy := rfl
@[simp] theorem latchCnt_cmderr (c : Byte) (s : State) : (latchCnt c s).cmderr = s.cmderr := rfl
@[simp] theorem latchCnt_opc (c : Byte) (s : State) : (latchCnt c s).opc = s.opc := rfl
@[simp] theorem latchCnt_sla (c : Byte) (s : State) : (latchCnt c s).sla = s.sla := rfl
@[simp] theorem latchCnt_sel (c : Byte) (s : State) : (latchCnt c s).sel = s.sel := rfl
@[simp] theorem latchCnt_cnt (c : Byte) (s : State) : (latchCnt c s).cnt = c := rfl
@[simp] theorem latchCnt_txlen (c : Byte) (s : State) : (latchCnt c s).txlen = s.txlen := rfl
@[simp] theorem latchCnt_txbuf (c : Byte) (s : State) : (latchCnt c s).txbuf = s.txbuf := rfl
@[simp] theorem latchCnt_saved (c : Byte) (s : State) : (latchCnt c s).saved = s.saved := rfl
@[simp] theorem latchCnt_seq (c : Byte) (s : State) : (latchCnt c s).seq = s.seq := rfl
@[simp] theorem latchCnt_outc (c : Byte) (s : State) : (latchCnt c s).outc = s.outc := rfl
@[simp] theorem latchCnt_rxbuf (c : Byte) (s : State) : (latchCnt c s).rxbuf = s.rxbuf := rfl
@[simp] theorem latchCnt_avail (c : Byte) (s : State) : (latchCnt c s).avail = s.avail := rfl
@[simp] theorem latchCnt_cursor (c : Byte) (s : State) : (latchCnt c s).cursor = s.cursor := rfl
@[simp] theorem latchCnt_total (c : Byte) (s : State) : (latchCnt c s).total = s.total := rfl
@[simp] theorem latchCnt_held (c : Byte) (s : State) : (latchCnt c s).held = s.held := rfl
@[simp] theorem latchCnt_mode (c : Byte) (s : State) : (latchCnt c s).mode = s.mode := rfl
@[simp] theorem latchCnt_pend (c : Byte) (s : State) : (latchCnt c s).pend = s.pend := rfl
@[simp] theorem latchCnt_line (c : Byte) (s : State) : (latchCnt c s).line = s.line := rfl
@[simp] theorem latchCnt_cmdq (c : Byte) (s : State) : (latchCnt c s).cmdq = s.cmdq := rfl
@[simp] theorem latchCnt_rspq (c : Byte) (s : State) : (latchCnt c s).rspq = s.rspq := rfl
@[simp] theorem latchCnt_rxout (c : Byte) (s : State) : (latchCnt c s).rxout = s.rxout := rfl
@[simp] theorem latchCnt_ev (c : Byte) (s : State) : (latchCnt c s).ev = s.ev := rfl
@[simp] theorem latchCnt_script (c : Byte) (s : State) : (latchCnt c s).script = s.script := rfl
@[simp] theorem latchCnt_free (c : Byte) (s : State) : (latchCnt c s).free = s.free := rfl
@[simp] theorem latchCnt_cfg (c : Byte) (s : State) : (latchCnt c s).cfg = s.cfg := rfl

@[simp] theorem latchPayload_ctrl (d : List Byte) (s : State) : (latchPayload d s).ctrl = s.ctrl := rfl
@[simp] theorem latchPayload_status (d : List Byte) (s : State) : (latchPayload d s).status = s.status := rfl
@[simp] theorem latchPayload_data (d : List Byte) (s : State) : (latchPayload d s).data = s.data := rfl
@[simp] theorem latchPayload_timeout (d : List Byte) (s : State) : (latchPayload d s).timeout = s.timeout := rfl
@[simp] theorem latchPayload_now (d : List Byte) (s : State) : (latchPayload d s).now = s.now := rfl
@[simp] theorem latchPayload_t0 (d : List Byte) (s : State) : (latchPayload d s).t0 = s.t0 := rfl
@[simp] theorem latchPayload_rc (d : List Byte) (s : State) : (latchPayload d s).rc = s.rc := rfl
@[simp] theorem latchPayload_busy (d : List Byte) (s : State) : (latchPayload d s).busy = s.busy := rfl
@[simp] theorem latchPayload_cmderr (d : List Byte) (s : State) : (latchPayload d s).cmderr = s.cmderr := rfl
@[simp] theorem latchPayload_opc (d : List Byte) (s : State) : (latchPayload d s).opc = s.opc := rfl
@[simp] theorem latchPayload_sla (d : List Byte) (s : State) : (latchPayload d s).sla = s.sla := rfl
@[simp] theorem latchPayload_sel (d : List Byte) (s : State) : (latchPayload d s).sel = s.sel := rfl
@[simp] theorem latchPayload_cnt (d : List Byte) (s : State) : (latchPayload d s).cnt = s.cnt := rfl
@[simp] theorem latchPayload_txlen (d : List Byte) (s : State) :
    (latchPayload d s).txlen = BitVec.ofNat 8 d.length := rfl
@[simp] theorem latchPayload_txbuf (d : List Byte) (s : State) :
    (latchPayload d s).txbuf = s.txbuf.writeList 0 (d.take 255) := rfl
@[simp] theorem latchPayload_saved (d : List Byte) (s : State) : (latchPayload d s).saved = s.saved := rfl
@[simp] theorem latchPayload_seq (d : List Byte) (s : State) : (latchPayload d s).seq = s.seq := rfl
@[simp] theorem latchPayload_outc (d : List Byte) (s : State) : (latchPayload d s).outc = s.outc := rfl
@[simp] theorem latchPayload_rxbuf (d : List Byte) (s : State) : (latchPayload d s).rxbuf = s.rxbuf := rfl
@[simp] theorem latchPayload_avail (d : List Byte) (s : State) : (latchPayload d s).avail = s.avail := rfl
@[simp] theorem latchPayload_cursor (d : List Byte) (s : State) : (latchPayload d s).cursor = s.cursor := rfl
@[simp] theorem latchPayload_total (d : List Byte) (s : State) : (latchPayload d s).total = s.total := rfl
@[simp] theorem latchPayload_held (d : List Byte) (s : State) : (latchPayload d s).held = s.held := rfl
@[simp] theorem latchPayload_mode (d : List Byte) (s : State) : (latchPayload d s).mode = s.mode := rfl
@[simp] theorem latchPayload_pend (d : List Byte) (s : State) : (latchPayload d s).pend = s.pend := rfl
@[simp] theorem latchPayload_line (d : List Byte) (s : State) : (latchPayload d s).line = s.line := rfl
@[simp] theorem latchPayload_cmdq (d : List Byte) (s : State) : (latchPayload d s).cmdq = s.cmdq := rfl
@[simp] theorem latchPayload_rspq (d : List Byte) (s : State) : (latchPayload d s).rspq = s.rspq := rfl
@[simp] theorem latchPayload_rxout (d : List Byte) (s : State) : (latchPayload d s).rxout = s.rxout := rfl
@[simp] theorem latchPayload_ev (d : List Byte) (s : State) : (latchPayload d s).ev = s.ev := rfl
@[simp] theorem latchPayload_script (d : List Byte) (s : State) : (latchPayload d s).script = s.script := rfl
@[simp] theorem latchPayload_free (d : List Byte) (s : State) : (latchPayload d s).free = s.free := rfl
@[simp] theorem latchPayload_cfg (d : List Byte) (s : State) : (latchPayload d s).cfg = s.cfg := rfl

@[simp] theorem storeByte_ctrl (s : State) : (storeByte s).ctrl = s.ctrl := rfl
@[simp] theorem storeByte_status (s : State) : (storeByte s).status = s.status := rfl
@[simp] theorem storeByte_data (s : State) : (storeByte s).data = s.data := rfl
@[simp] theorem storeByte_timeout (s : State) : (storeByte s).timeout = s.timeout := rfl
@[simp] theorem storeByte_now (s : State) : (storeByte s).now = s.now := rfl
@[simp] theorem storeByte_t0 (s : State) : (storeByte s).t0 = s.t0 := rfl
@[simp] theorem storeByte_rc (s : State) : (storeByte s).rc = s.rc := rfl
@[simp] theorem storeByte_busy (s : State) : (storeByte s).busy = s.busy := rfl
@[simp] theorem storeByte_cmderr (s : State) : (storeByte s).cmderr = s.cmderr := rfl
@[simp] theorem storeByte_opc (s : State) : (storeByte s).opc = s.opc := rfl
@[simp] theorem storeByte_sla (s : State) : (storeByte s).sla = s.sla := rfl
@[simp] theorem storeByte_sel (s : State) : (storeByte s).sel = s.sel := rfl
@[simp] theorem storeByte_cnt (s : State) : (storeByte s).cnt = s.cnt := rfl
@[simp] theorem storeByte_txlen (s : State) : (storeByte s).txlen = s.txlen := rfl
@[simp] theorem storeByte_txbuf (s : State) : (storeByte s).txbuf = s.txbuf := rfl
@[simp] theorem storeByte_saved (s : State) : (storeByte s).saved = s.saved := rfl
@[simp] theorem storeByte_seq (s : State) : (storeByte s).seq = s.seq := rfl
@[simp] theorem storeByte_outc (s : State) : (storeByte s).outc = s.outc := rfl
@[simp] theorem storeByte_rxbuf (s : State) : (storeByte s).rxbuf = s.rxbuf.write s.seq.idx.toNat s.data := rfl
@[simp] theorem storeByte_avail (s : State) : (storeByte s).avail = s.avail + 1 := rfl
@[simp] theorem storeByte_cursor (s : State) : (storeByte s).cursor = s.cursor := rfl
@[simp] theorem storeByte_total (s : State) : (storeByte s).total = s.total + 1 := rfl
@[simp] theorem storeByte_held (s : State) : (storeByte s).held = s.held := rfl
@[simp] theorem storeByte_mode (s : State) : (storeByte s).mode = s.mode := rfl
@[simp] theorem storeByte_pend (s : State) : (storeByte s).pend = s.pend := rfl
@[simp] theorem storeByte_line (s : State) : (storeByte s).line = s.line := rfl
@[simp] theorem storeByte_cmdq (s : State) : (storeByte s).cmdq = s.cmdq := rfl
@[simp] theorem storeByte_rspq (s : State) : (storeByte s).rspq = s.rspq := rfl
@[simp] theorem storeByte_rxout (s : State) : (storeByte s).rxout = s.rxout := rfl
@[simp] theorem storeByte_ev (s : State) : (storeByte s).ev = s.ev := rfl
@[simp] theorem storeByte_script (s : State) : (storeByte s).script = s.script := rfl
@[simp] theorem storeByte_free (s : State) : (storeByte s).free = s.free := rfl
@[simp] theorem storeByte_cfg (s : State) : (storeByte s).cfg = s.cfg := rfl

@[simp] theorem withLine_ctrl (l : Line) (s : State) : (withLine l s).ctrl = s.ctrl := rfl
@[simp] theorem withLine_status (l : Line) (s : State) : (withLine l s).status = s.status := rfl
@[simp] theorem withLine_data (l : Line) (s : State) : (withLine l s).data = s.data := rfl
@[simp] theorem withLine_timeout (l : Line) (s : State) : (withLine l s).timeout = s.timeout := rfl
@[simp] theorem withLine_now (l : Line) (s : State) : (withLine l s).now = s.now := rfl
@[simp] theorem withLine_t0 (l : Line) (s : State) : (withLine l s).t0 = s.t0 := rfl
@[simp] theorem withLine_rc (l : Line) (s : State) : (withLine l s).rc = s.rc := rfl
@[simp] theorem withLine_busy (l : Line) (s : State) : (withLine l s).busy = s.busy := rfl
@[simp] theorem withLine_cmderr (l : Line) (s : State) : (withLine l s).cmderr = s.cmderr := rfl
@[simp] theorem withLine_opc (l : Line) (s : State) : (withLine l s).opc = s.opc := rfl
@[simp] theorem withLine_sla (l : Line) (s : State) : (withLine l s).sla = s.sla := rfl
@[simp] theorem withLine_sel (l : Line) (s : State) : (withLine l s).sel = s.sel := rfl
@[simp] theorem withLine_cnt (l : Line) (s : State) : (withLine l s).cnt = s.cnt := rfl
@[simp] theorem withLine_txlen (l : Line) (s : State) : (withLine l s).txlen = s.txlen := rfl
@[simp] theorem withLine_txbuf (l : Line) (s : State) : (withLine l s).txbuf = s.txbuf := rfl
@[simp] theorem withLine_saved (l : Line) (s : State) : (withLine l s).saved = s.saved := rfl
@[simp] theorem withLine_seq (l : Line) (s : State) : (withLine l s).seq = s.seq := rfl
@[simp] theorem withLine_outc (l : Line) (s : State) : (withLine l s).outc = s.outc := rfl
@[simp] theorem withLine_rxbuf (l : Line) (s : State) : (withLine l s).rxbuf = s.rxbuf := rfl
@[simp] theorem withLine_avail (l : Line) (s : State) : (withLine l s).avail = s.avail := rfl
@[simp] theorem withLine_cursor (l : Line) (s : State) : (withLine l s).cursor = s.cursor := rfl
@[simp] theorem withLine_total (l : Line) (s : State) : (withLine l s).total = s.total := rfl
@[simp] theorem withLine_held (l : Line) (s : State) : (withLine l s).held = s.held := rfl
@[simp] theorem withLine_mode (l : Line) (s : State) : (withLine l s).mode = s.mode := rfl
@[simp] theorem withLine_pend (l : Line) (s : State) : (withLine l s).pend = s.pend := rfl
@[simp] theorem withLine_line (l : Line) (s : State) : (withLine l s).line = l := rfl
@[simp] theorem withLine_cmdq (l : Line) (s : State) : (withLine l s).cmdq = s.cmdq := rfl
@[simp] theorem withLine_rspq (l : Line) (s : State) : (withLine l s).rspq = s.rspq := rfl
@[simp] theorem withLine_rxout (l : Line) (s : State) : (withLine l s).rxout = s.rxout := rfl
@[simp] theorem withLine_ev (l : Line) (s : State) : (withLine l s).ev = s.ev := rfl
@[simp] theorem withLine_script (l : Line) (s : State) : (withLine l s).script = s.script := rfl
@[simp] theorem withLine_free (l : Line) (s : State) : (withLine l s).free = s.free := rfl
@[simp] theorem withLine_cfg (l : Line) (s : State) : (withLine l s).cfg = s.cfg := rfl

end Sys2Proof.Machine
end

