-- ==== Sys2Proof/Laws/Control.lean ====
section
/-! SUPPORT. What a write of the control register can do (30_encoding R95), and the two writes of lockup recovery. -/
namespace Sys2Proof.Machine

/-- The three kinds of engine write: a disable, an arm, and an enabled write that is no arm (R95). -/
theorem ctrlWrite_cases (w : Ctrl) (s : State) :
    (ctrlEN w = false ∧ ctrlWrite w s = disable (emit (.ctrl w) s)) ∨
      (ctrlEN w = true ∧ ctrlCF w = true ∧ ctrlWrite w s = arm w (emit (.ctrl w) s)) ∨
      (ctrlEN w = true ∧ ctrlCF w = false ∧
        ctrlWrite w s = { emit (.ctrl w) s with ctrl := idleCtrl w s.ctrl }) := by
  unfold ctrlWrite
  cases ctrlEN w <;> cases ctrlCF w <;> simp

/-- The arm patterns are arms (R97). -/
theorem ctrlWrite_armWord (p : Prim) (s : State) :
    ctrlWrite (armWord p) s = arm (armWord p) (emit (.ctrl (armWord p)) s) := by
  rcases p with _ | d | _ | a | _
  · rfl
  · cases d <;> rfl
  · rfl
  · cases a <;> rfl
  · rfl

theorem ctrlWrite_disable (s : State) : ctrlWrite 0b00000 s = disable (emit (.ctrl 0b00000) s) := rfl

theorem ctrlWrite_idle (s : State) :
    ctrlWrite 0b00011 s = { emit (.ctrl 0b00011) s with ctrl := idleCtrl 0b00011 s.ctrl } := rfl

/-! The fields no write of the control register changes. -/

@[simp] theorem ctrlWrite_data (w : Ctrl) (s : State) : (ctrlWrite w s).data = s.data := by
  rcases ctrlWrite_cases w s with ⟨_, h⟩ | ⟨_, _, h⟩ | ⟨_, _, h⟩ <;> rw [h] <;> rfl
@[simp] theorem ctrlWrite_timeout (w : Ctrl) (s : State) : (ctrlWrite w s).timeout = s.timeout := by
  rcases ctrlWrite_cases w s with ⟨_, h⟩ | ⟨_, _, h⟩ | ⟨_, _, h⟩ <;> rw [h] <;> rfl
@[simp] theorem ctrlWrite_now (w : Ctrl) (s : State) : (ctrlWrite w s).now = s.now := by
  rcases ctrlWrite_cases w s with ⟨_, h⟩ | ⟨_, _, h⟩ | ⟨_, _, h⟩ <;> rw [h] <;> rfl
@[simp] theorem ctrlWrite_t0 (w : Ctrl) (s : State) : (ctrlWrite w s).t0 = s.t0 := by
  rcases ctrlWrite_cases w s with ⟨_, h⟩ | ⟨_, _, h⟩ | ⟨_, _, h⟩ <;> rw [h] <;> rfl
@[simp] theorem ctrlWrite_rc (w : Ctrl) (s : State) : (ctrlWrite w s).rc = s.rc := by
  rcases ctrlWrite_cases w s with ⟨_, h⟩ | ⟨_, _, h⟩ | ⟨_, _, h⟩ <;> rw [h] <;> rfl
@[simp] theorem ctrlWrite_busy (w : Ctrl) (s : State) : (ctrlWrite w s).busy = s.busy := by
  rcases ctrlWrite_cases w s with ⟨_, h⟩ | ⟨_, _, h⟩ | ⟨_, _, h⟩ <;> rw [h] <;> rfl
@[simp] theorem ctrlWrite_cmderr (w : Ctrl) (s : State) : (ctrlWrite w s).cmderr = s.cmderr := by
  rcases ctrlWrite_cases w s with ⟨_, h⟩ | ⟨_, _, h⟩ | ⟨_, _, h⟩ <;> rw [h] <;> rfl
@[simp] theorem ctrlWrite_opc (w : Ctrl) (s : State) : (ctrlWrite w s).opc = s.opc := by
  rcases ctrlWrite_cases w s with ⟨_, h⟩ | ⟨_, _, h⟩ | ⟨_, _, h⟩ <;> rw [h] <;> rfl
@[simp] theorem ctrlWrite_sla (w : Ctrl) (s : State) : (ctrlWrite w s).sla = s.sla := by
  rcases ctrlWrite_cases w s with ⟨_, h⟩ | ⟨_, _, h⟩ | ⟨_, _, h⟩ <;> rw [h] <;> rfl
@[simp] theorem ctrlWrite_sel (w : Ctrl) (s : State) : (ctrlWrite w s).sel = s.sel := by
  rcases ctrlWrite_cases w s with ⟨_, h⟩ | ⟨_, _, h⟩ | ⟨_, _, h⟩ <;> rw [h] <;> rfl
@[simp] theorem ctrlWrite_cnt (w : Ctrl) (s : State) : (ctrlWrite w s).cnt = s.cnt := by
  rcases ctrlWrite_cases w s with ⟨_, h⟩ | ⟨_, _, h⟩ | ⟨_, _, h⟩ <;> rw [h] <;> rfl
@[simp] theorem ctrlWrite_txlen (w : Ctrl) (s : State) : (ctrlWrite w s).txlen = s.txlen := by
  rcases ctrlWrite_cases w s with ⟨_, h⟩ | ⟨_, _, h⟩ | ⟨_, _, h⟩ <;> rw [h] <;> rfl
@[simp] theorem ctrlWrite_txbuf (w : Ctrl) (s : State) : (ctrlWrite w s).txbuf = s.txbuf := by
  rcases ctrlWrite_cases w s with ⟨_, h⟩ | ⟨_, _, h⟩ | ⟨_, _, h⟩ <;> rw [h] <;> rfl
@[simp] theorem ctrlWrite_saved (w : Ctrl) (s : State) : (ctrlWrite w s).saved = s.saved := by
  rcases ctrlWrite_cases w s with ⟨_, h⟩ | ⟨_, _, h⟩ | ⟨_, _, h⟩ <;> rw [h] <;> rfl
@[simp] theorem ctrlWrite_seq (w : Ctrl) (s : State) : (ctrlWrite w s).seq = s.seq := by
  rcases ctrlWrite_cases w s with ⟨_, h⟩ | ⟨_, _, h⟩ | ⟨_, _, h⟩ <;> rw [h] <;> rfl
@[simp] theorem ctrlWrite_outc (w : Ctrl) (s : State) : (ctrlWrite w s).outc = s.outc := by
  rcases ctrlWrite_cases w s with ⟨_, h⟩ | ⟨_, _, h⟩ | ⟨_, _, h⟩ <;> rw [h] <;> rfl
@[simp] theorem ctrlWrite_rxbuf (w : Ctrl) (s : State) : (ctrlWrite w s).rxbuf = s.rxbuf := by
  rcases ctrlWrite_cases w s with ⟨_, h⟩ | ⟨_, _, h⟩ | ⟨_, _, h⟩ <;> rw [h] <;> rfl
@[simp] theorem ctrlWrite_avail (w : Ctrl) (s : State) : (ctrlWrite w s).avail = s.avail := by
  rcases ctrlWrite_cases w s with ⟨_, h⟩ | ⟨_, _, h⟩ | ⟨_, _, h⟩ <;> rw [h] <;> rfl
@[simp] theorem ctrlWrite_cursor (w : Ctrl) (s : State) : (ctrlWrite w s).cursor = s.cursor := by
  rcases ctrlWrite_cases w s with ⟨_, h⟩ | ⟨_, _, h⟩ | ⟨_, _, h⟩ <;> rw [h] <;> rfl
@[simp] theorem ctrlWrite_total (w : Ctrl) (s : State) : (ctrlWrite w s).total = s.total := by
  rcases ctrlWrite_cases w s with ⟨_, h⟩ | ⟨_, _, h⟩ | ⟨_, _, h⟩ <;> rw [h] <;> rfl
@[simp] theorem ctrlWrite_cmdq (w : Ctrl) (s : State) : (ctrlWrite w s).cmdq = s.cmdq := by
  rcases ctrlWrite_cases w s with ⟨_, h⟩ | ⟨_, _, h⟩ | ⟨_, _, h⟩ <;> rw [h] <;> rfl
@[simp] theorem ctrlWrite_rspq (w : Ctrl) (s : State) : (ctrlWrite w s).rspq = s.rspq := by
  rcases ctrlWrite_cases w s with ⟨_, h⟩ | ⟨_, _, h⟩ | ⟨_, _, h⟩ <;> rw [h] <;> rfl
@[simp] theorem ctrlWrite_rxout (w : Ctrl) (s : State) : (ctrlWrite w s).rxout = s.rxout := by
  rcases ctrlWrite_cases w s with ⟨_, h⟩ | ⟨_, _, h⟩ | ⟨_, _, h⟩ <;> rw [h] <;> rfl
@[simp] theorem ctrlWrite_script (w : Ctrl) (s : State) : (ctrlWrite w s).script = s.script := by
  rcases ctrlWrite_cases w s with ⟨_, h⟩ | ⟨_, _, h⟩ | ⟨_, _, h⟩ <;> rw [h] <;> rfl
@[simp] theorem ctrlWrite_cfg (w : Ctrl) (s : State) : (ctrlWrite w s).cfg = s.cfg := by
  rcases ctrlWrite_cases w s with ⟨_, h⟩ | ⟨_, _, h⟩ | ⟨_, _, h⟩ <;> rw [h] <;> rfl
@[simp] theorem ctrlWrite_ev (w : Ctrl) (s : State) : (ctrlWrite w s).ev = s.ev ++ [.ctrl w] := by
  rcases ctrlWrite_cases w s with ⟨_, h⟩ | ⟨_, _, h⟩ | ⟨_, _, h⟩ <;> rw [h] <;> rfl

end Sys2Proof.Machine
end

