-- ==== Sys2Proof/Laws/Bus.lean ====
section
/-! SUPPORT. What a turn of the bus side can do (43_bus_side R191 to R200): nothing outside its line level, one completion
of a start or transfer, or the completion of a stop. -/
namespace Sys2Proof.Machine

/-! The fields no completion changes. -/

@[simp] theorem completeAction_timeout (st b : Byte) (r : Bool) (s : State) : (completeAction st b r s).timeout = s.timeout := rfl
@[simp] theorem completeAction_now (st b : Byte) (r : Bool) (s : State) : (completeAction st b r s).now = s.now := rfl
@[simp] theorem completeAction_t0 (st b : Byte) (r : Bool) (s : State) : (completeAction st b r s).t0 = s.t0 := rfl
@[simp] theorem completeAction_rc (st b : Byte) (r : Bool) (s : State) : (completeAction st b r s).rc = s.rc := rfl
@[simp] theorem completeAction_busy (st b : Byte) (r : Bool) (s : State) : (completeAction st b r s).busy = s.busy := rfl
@[simp] theorem completeAction_cmderr (st b : Byte) (r : Bool) (s : State) : (completeAction st b r s).cmderr = s.cmderr := rfl
@[simp] theorem completeAction_opc (st b : Byte) (r : Bool) (s : State) : (completeAction st b r s).opc = s.opc := rfl
@[simp] theorem completeAction_sla (st b : Byte) (r : Bool) (s : State) : (completeAction st b r s).sla = s.sla := rfl
@[simp] theorem completeAction_sel (st b : Byte) (r : Bool) (s : State) : (completeAction st b r s).sel = s.sel := rfl
@[simp] theorem completeAction_cnt (st b : Byte) (r : Bool) (s : State) : (completeAction st b r s).cnt = s.cnt := rfl
@[simp] theorem completeAction_txlen (st b : Byte) (r : Bool) (s : State) : (completeAction st b r s).txlen = s.txlen := rfl
@[simp] theorem completeAction_txbuf (st b : Byte) (r : Bool) (s : State) : (completeAction st b r s).txbuf = s.txbuf := rfl
@[simp] theorem completeAction_saved (st b : Byte) (r : Bool) (s : State) : (completeAction st b r s).saved = s.saved := rfl
@[simp] theorem completeAction_seq (st b : Byte) (r : Bool) (s : State) : (completeAction st b r s).seq = s.seq := rfl
@[simp] theorem completeAction_outc (st b : Byte) (r : Bool) (s : State) : (completeAction st b r s).outc = s.outc := rfl
@[simp] theorem completeAction_rxbuf (st b : Byte) (r : Bool) (s : State) : (completeAction st b r s).rxbuf = s.rxbuf := rfl
@[simp] theorem completeAction_avail (st b : Byte) (r : Bool) (s : State) : (completeAction st b r s).avail = s.avail := rfl
@[simp] theorem completeAction_cursor (st b : Byte) (r : Bool) (s : State) : (completeAction st b r s).cursor = s.cursor := rfl
@[simp] theorem completeAction_total (st b : Byte) (r : Bool) (s : State) : (completeAction st b r s).total = s.total := rfl
@[simp] theorem completeAction_cmdq (st b : Byte) (r : Bool) (s : State) : (completeAction st b r s).cmdq = s.cmdq := rfl
@[simp] theorem completeAction_rspq (st b : Byte) (r : Bool) (s : State) : (completeAction st b r s).rspq = s.rspq := rfl
@[simp] theorem completeAction_rxout (st b : Byte) (r : Bool) (s : State) : (completeAction st b r s).rxout = s.rxout := rfl
@[simp] theorem completeAction_script (st b : Byte) (r : Bool) (s : State) : (completeAction st b r s).script = s.script := rfl
@[simp] theorem completeAction_free (st b : Byte) (r : Bool) (s : State) : (completeAction st b r s).free = s.free := rfl
@[simp] theorem completeAction_cfg (st b : Byte) (r : Bool) (s : State) : (completeAction st b r s).cfg = s.cfg := rfl

@[simp] theorem completeStop_data (s : State) : (completeStop s).data = s.data := rfl
@[simp] theorem completeStop_timeout (s : State) : (completeStop s).timeout = s.timeout := rfl
@[simp] theorem completeStop_now (s : State) : (completeStop s).now = s.now := rfl
@[simp] theorem completeStop_t0 (s : State) : (completeStop s).t0 = s.t0 := rfl
@[simp] theorem completeStop_rc (s : State) : (completeStop s).rc = s.rc := rfl
@[simp] theorem completeStop_busy (s : State) : (completeStop s).busy = s.busy := rfl
@[simp] theorem completeStop_cmderr (s : State) : (completeStop s).cmderr = s.cmderr := rfl
@[simp] theorem completeStop_opc (s : State) : (completeStop s).opc = s.opc := rfl
@[simp] theorem completeStop_sla (s : State) : (completeStop s).sla = s.sla := rfl
@[simp] theorem completeStop_sel (s : State) : (completeStop s).sel = s.sel := rfl
@[simp] theorem completeStop_cnt (s : State) : (completeStop s).cnt = s.cnt := rfl
@[simp] theorem completeStop_txlen (s : State) : (completeStop s).txlen = s.txlen := rfl
@[simp] theorem completeStop_txbuf (s : State) : (completeStop s).txbuf = s.txbuf := rfl
@[simp] theorem completeStop_saved (s : State) : (completeStop s).saved = s.saved := rfl
@[simp] theorem completeStop_seq (s : State) : (completeStop s).seq = s.seq := rfl
@[simp] theorem completeStop_outc (s : State) : (completeStop s).outc = s.outc := rfl
@[simp] theorem completeStop_rxbuf (s : State) : (completeStop s).rxbuf = s.rxbuf := rfl
@[simp] theorem completeStop_avail (s : State) : (completeStop s).avail = s.avail := rfl
@[simp] theorem completeStop_cursor (s : State) : (completeStop s).cursor = s.cursor := rfl
@[simp] theorem completeStop_total (s : State) : (completeStop s).total = s.total := rfl
@[simp] theorem completeStop_cmdq (s : State) : (completeStop s).cmdq = s.cmdq := rfl
@[simp] theorem completeStop_rspq (s : State) : (completeStop s).rspq = s.rspq := rfl
@[simp] theorem completeStop_rxout (s : State) : (completeStop s).rxout = s.rxout := rfl
@[simp] theorem completeStop_script (s : State) : (completeStop s).script = s.script := rfl
@[simp] theorem completeStop_cfg (s : State) : (completeStop s).cfg = s.cfg := rfl

/-- What one turn of the bus side can do to a state. -/
inductive BusMove (s : State) : State → Prop where
  /-- The line level moved, or nothing did. -/
  | lines (l : Line) : BusMove s { s with line := l }
  /-- A pending start, transfer or `BadAct` completed (R194, R199). -/
  | complete (st b : Byte) (r : Bool) (l : Line) (en : ctrlEN s.ctrl = true) (act : s.pend ≠ .noAct)
      (nostop : s.pend ≠ .stopAct) : BusMove s { completeAction st b r s with line := l }
  /-- A pending stop completed (R196). -/
  | stop (l : Line) (en : ctrlEN s.ctrl = true) (act : s.pend = .stopAct) :
      BusMove s { completeStop s with line := l }

theorem busMove_refl (s : State) : BusMove s s := BusMove.lines s.line

theorem busMove_complete (st b : Byte) (r : Bool) (s : State) (en : ctrlEN s.ctrl = true) (act : s.pend ≠ .noAct)
    (nostop : s.pend ≠ .stopAct) : BusMove s (completeAction st b r s) :=
  BusMove.complete st b r (completeAction st b r s).line en act nostop

theorem busMove_stop (s : State) (en : ctrlEN s.ctrl = true) (act : s.pend = .stopAct) : BusMove s (completeStop s) :=
  BusMove.stop (completeStop s).line en act

/-- A completion of a state that differs only in its line level is a move of the original state. -/
theorem busMove_complete_withLine (st b : Byte) (r : Bool) (l : Line) (s : State) (en : ctrlEN s.ctrl = true)
    (act : s.pend ≠ .noAct) (nostop : s.pend ≠ .stopAct) : BusMove s (completeAction st b r (withLine l s)) :=
  BusMove.complete st b r (completeAction st b r (withLine l s)).line en act nostop

theorem busDone_move (st b : Byte) (r : Bool) (s : State) : BusMove s (busDone st b r s) := by
  unfold busDone
  split
  · cases h : s.pend
    case noAct => exact busMove_refl s
    case stopAct => exact busMove_refl s
    all_goals exact busMove_complete _ _ _ s (by assumption) (by simp [h]) (by simp [h])
  · exact busMove_refl s

theorem busStop_move (s : State) : BusMove s (busStop s) := by
  unfold busStop
  split
  · cases h : s.pend
    case stopAct => exact busMove_stop s (by assumption) h
    all_goals exact busMove_refl s
  · exact busMove_refl s

theorem busNominal_move (ack : Bool) (b : Byte) (s : State) : BusMove s (busNominal ack b s) := by
  unfold busNominal
  split
  · cases h : s.pend
    case startAct => exact busMove_complete _ _ _ s (by assumption) (by simp [h]) (by simp [h])
    case xferAct =>
      dsimp only
      split
      · exact busMove_complete _ _ _ s (by assumption) (by simp [h]) (by simp [h])
      · exact busMove_complete _ _ _ s (by assumption) (by simp [h]) (by simp [h])
      · exact busMove_refl s
    case stopAct => exact busMove_stop s (by assumption) h
    all_goals exact busMove_refl s
  · exact busMove_refl s

theorem lineStart_move (scl : Bool) (s : State) (en : ctrlEN s.ctrl = true) (h : s.pend = .startAct) :
    BusMove s (lineStart scl s) := by
  unfold lineStart
  cases s.line.phase <;> dsimp only
  all_goals
    repeat' split
    all_goals first
      | exact busMove_refl s
      | exact BusMove.lines _
      | exact busMove_complete_withLine _ _ _ _ s en (by simp [h]) (by simp [h])

theorem lineXfer_move (snd scl sda cond : Bool) (s : State) (en : ctrlEN s.ctrl = true) (h : s.pend = .xferAct) :
    BusMove s (lineXfer snd scl sda cond s) := by
  unfold lineXfer
  cases s.line.phase <;> dsimp only
  all_goals
    repeat' split
    all_goals first
      | exact busMove_refl s
      | exact BusMove.lines _
      | exact busMove_complete _ _ _ s en (by simp [h]) (by simp [h])

theorem lineStop_move (scl stopped : Bool) (s : State) (en : ctrlEN s.ctrl = true) (h : s.pend = .stopAct) :
    BusMove s (lineStop scl stopped s) := by
  unfold lineStop
  cases s.line.phase <;> dsimp only
  all_goals
    repeat' split
    all_goals first
      | exact busMove_refl s
      | exact BusMove.lines _
      | exact busMove_stop s en h

/-- `StopAct` completes only at a stop condition seen on the lines (R214). -/
theorem lineStop_waits (scl : Bool) (s : State) : lineStop scl false s = { s with line := (lineStop scl false s).line } := by
  unfold lineStop
  cases s.line.phase <;> cases scl <;> rfl

theorem lineMove_move (scl sda started stopped : Bool) (s : State) (en : ctrlEN s.ctrl = true) :
    BusMove s (lineMove scl sda started stopped s) := by
  unfold lineMove
  cases h : s.pend <;> dsimp only
  case startAct => exact lineStart_move scl s en h
  case xferAct =>
    repeat' split
    all_goals first
      | exact busMove_refl s
      | exact lineXfer_move _ scl sda (started || stopped) s en h
  case stopAct =>
    split
    · exact lineStop_move scl stopped s en h
    · exact busMove_refl s
  all_goals exact busMove_refl s

/-- A move after a change of the line level alone is a move of the original state. -/
theorem busMove_of_withLine (l : Line) (s t : State) (h : BusMove (withLine l s) t) : BusMove s t := by
  cases h with
  | lines l' => exact BusMove.lines l'
  | complete st b r l' en act nostop => exact BusMove.complete st b r l' en act nostop
  | stop l' en act => exact BusMove.stop l' en act

theorem lineStep_move (a b : Bool) (s : State) : BusMove s (lineStep a b s) := by
  unfold lineStep
  split
  · exact busMove_of_withLine _ s _ (lineMove_move _ _ _ _ (withLine _ s) (by assumption))
  · exact busMove_refl s

/-- What a turn of the bus side can do. -/
theorem envStep_move (e : EnvEvent) (s : State) (h : e.isBus = true) : BusMove s (envStep e s) := by
  cases e with
  | done st b r => exact busDone_move st b r s
  | sto => exact busStop_move s
  | nominal ack b => exact busNominal_move ack b s
  | line a b => exact lineStep_move a b s
  | tick => exact absurd h (by decide)
  | send b => exact absurd h (by simp [EnvEvent.isBus])
  | takeRsp => exact absurd h (by decide)
  | takeRx => exact absurd h (by decide)
  | rst => exact absurd h (by decide)

/-- What no turn of another agent but a reset changes: the engine's registers, the latches, the ReceiveBuffer, the
threshold, the script and the parameters (R203, R244, R282). -/
structure EnvKeeps (s t : State) : Prop where
  timeout : t.timeout = s.timeout
  t0 : t.t0 = s.t0
  rc : t.rc = s.rc
  busy : t.busy = s.busy
  cmderr : t.cmderr = s.cmderr
  opc : t.opc = s.opc
  sla : t.sla = s.sla
  sel : t.sel = s.sel
  cnt : t.cnt = s.cnt
  txlen : t.txlen = s.txlen
  txbuf : t.txbuf = s.txbuf
  saved : t.saved = s.saved
  seq : t.seq = s.seq
  outc : t.outc = s.outc
  rxbuf : t.rxbuf = s.rxbuf
  avail : t.avail = s.avail
  cursor : t.cursor = s.cursor
  total : t.total = s.total
  script : t.script = s.script
  cfg : t.cfg = s.cfg

theorem envStep_keeps (e : EnvEvent) (s : State) (h : e ≠ .rst) : EnvKeeps s (envStep e s) := by
  cases hb : e.isBus
  · cases e
    case rst => exact absurd rfl h
    case tick | send | takeRsp | takeRx => constructor <;> rfl
    all_goals simp [EnvEvent.isBus] at hb
  · have hm := envStep_move e s hb
    generalize envStep e s = t at hm
    cases hm <;> constructor <;> rfl

end Sys2Proof.Machine
end

