-- ==== Sys2Proof/Laws/Encoding.lean ====
section
/-! SUPPORT. Small laws of the encodings: the operand bytes and their round trips (30_encoding R86, R109), the opcode
bytes (R88, R112). -/
namespace Sys2Proof

/-- An encoded address operand has its reserved bit clear (R109). -/
theorem slaByte_reserved (a : SlaveAddr) : (slaByte a).getLsbD 7 = false := by revert a; decide

/-- The seven bits of an encoded address operand are the address (R86). -/
theorem slaByte_setWidth (a : SlaveAddr) : (slaByte a).setWidth 7 = a := by revert a; decide

/-- An operand byte with the reserved bit clear is the encoding of its seven bits (R86, R109). -/
theorem slaByte_of_reserved_clear (a : Byte) (h : a.getLsbD 7 = false) : slaByte (a.setWidth 7) = a := by
  revert a; decide

/-- The high byte of two bytes joined (R68). -/
theorem hiByte_append (h l : Byte) : hiByte (h ++ l) = h := by
  unfold hiByte
  apply BitVec.eq_of_getLsbD_eq
  intro i hi
  simp only [BitVec.getLsbD_extractLsb', BitVec.getLsbD_append]
  simp [hi]

/-- The low byte of two bytes joined (R68). -/
theorem loByte_append (h l : Byte) : loByte (h ++ l) = l := by
  unfold loByte
  apply BitVec.eq_of_getLsbD_eq
  intro i hi
  simp only [BitVec.getLsbD_extractLsb', BitVec.getLsbD_append]
  simp [hi]

/-- A 16-bit operand is its two bytes joined, high byte first (R68). -/
theorem hiByte_append_loByte (v : Half) : hiByte v ++ loByte v = v := by
  unfold hiByte loByte
  apply BitVec.eq_of_getLsbD_eq
  intro i hi
  simp only [BitVec.getLsbD_append, BitVec.getLsbD_extractLsb']
  by_cases h : i < 8
  · simp [h]
  · have h1 : i - 8 < 8 := by omega
    have h2 : 8 + (i - 8) = i := by omega
    simp [h, h1, h2]

/-- Every opcode byte selects its own form (R112). -/
theorem opOf_byte (o : Op) : opOf o.byte = some o := by cases o <;> decide

/-- A form is selected by its own byte only (R112). -/
theorem byte_of_opOf (b : Byte) (o : Op) (h : opOf b = some o) : b = o.byte := by
  have h' := List.find?_some h
  exact (by simpa using h' : o.byte = b).symm

/-- When an address operand is accepted (R109). -/
theorem withSla_ok (a : Byte) (rest r : List Byte) (k : SlaveAddr → Instr) (i : Instr) :
    withSla a rest k = .ok i r ↔ a.getLsbD 7 = false ∧ i = k (a.setWidth 7) ∧ r = rest := by
  unfold withSla
  cases h : a.getLsbD 7 <;> simp [eq_comm, and_comm]

end Sys2Proof
end

