-- ==== Sys2Proof/Laws/Engine.lean ====
section
/-! SUPPORT. What one micro-phase of the engine can do (40_primitives R121), what no micro-phase does, and the induction
over the turns of a command. -/
namespace Sys2Proof.Machine

/-- The fields that moving on after a primitive never changes: it writes `SEQ`, and at the end of the command `RC`,
`RSPQ`, `BUSY` and the trace (R145, R151). -/
abbrev Advanced (s t : State) : Prop :=
  ∃ q c b r e, t = { s with seq := q, rc := c, busy := b, rspq := r, ev := e }

theorem advanced_beginStep (k : TStep) (g : Seg) (i : Byte) (s : State) : Advanced s (beginStep k g i s) :=
  ⟨_, s.rc, s.busy, s.rspq, s.ev, rfl⟩

theorem advanced_finish (c : Byte) (s : State) : Advanced s (finish c s) := ⟨_, _, _, _, _, rfl⟩

theorem advanced_gotoPhase (m : Mph) (s : State) : Advanced s (gotoPhase m s) :=
  ⟨_, s.rc, s.busy, s.rspq, s.ev, rfl⟩

theorem advanced_payloadOrStop (i : Byte) (s : State) : Advanced s (payloadOrStop i s) := by
  unfold payloadOrStop
  split <;> exact advanced_beginStep _ _ _ s

theorem advanced_advance (s : State) : Advanced s (advance s) := by
  unfold advance
  cases kindOf s.opc <;> dsimp only
  case primitive => exact advanced_finish 0 s
  case write =>
    unfold advanceWrite
    cases s.seq.tstep <;> dsimp only
    case dataSend =>
      cases s.seq.seg <;> dsimp only
      case selHi => exact advanced_beginStep _ _ _ s
      all_goals exact advanced_payloadOrStop _ s
    all_goals first
      | exact advanced_finish 0 s
      | exact advanced_beginStep _ _ _ s
  case read =>
    unfold advanceRead
    cases s.seq.tstep <;> dsimp only
    all_goals first
      | exact advanced_finish 0 s
      | exact advanced_beginStep _ _ _ s
      | exact advanced_gotoPhase _ s
  case rread =>
    unfold advanceRRead
    cases s.seq.tstep <;> dsimp only
    case dataSend => cases s.seq.seg <;> exact advanced_beginStep _ _ _ s
    all_goals first
      | exact advanced_finish 0 s
      | exact advanced_beginStep _ _ _ s
      | exact advanced_gotoPhase _ s

theorem advanced_checkOutcome (s : State) : Advanced s (checkOutcome s) := by
  unfold checkOutcome
  cases s.outc <;> dsimp only
  · exact advanced_advance s
  · exact advanced_finish _ s
  · exact advanced_finish _ s

theorem advanced_nextReceive (s : State) : Advanced s (nextReceive s) := by
  unfold nextReceive
  split <;> exact advanced_beginStep _ _ _ s

/-! One step of the machine, and one micro-phase, as equations. -/

theorem step_empty (s : State) (h : s.script = []) : step s = engineTurn s := by simp [step, h]

theorem step_engine (s : State) (ts : List Turn) (h : s.script = .engine :: ts) :
    step s = engineTurn { s with script := ts } := by simp [step, h]

/-- The engine's turn, given by the script or by its end. -/
theorem step_of_engineMoves (s : State) (h : EngineMoves s) : step s = engineTurn { s with script := s.script.tail } := by
  rcases h with h | h
  · rw [step_empty s h, h, List.tail_nil, ← h]
  · cases hs : s.script with
    | nil => simp [hs] at h
    | cons u ts =>
      rw [hs] at h
      cases h
      exact step_engine s ts hs

theorem step_env (s : State) (e : EnvEvent) (ts : List Turn) (h : s.script = .env e :: ts) :
    step s = .next (envStep e { s with script := ts }) := by simp [step, h]

theorem engineTurn_busy (s : State) (h : s.busy = true) : engineTurn s = microStep s := by simp [engineTurn, h]

theorem microStep_data (s : State) (p : Prim) (hp : currentPrim s = some p) (hm : s.seq.mph = .data) :
    microStep s = .next (phaseData p s) := by simp [microStep, hp, hm]

theorem microStep_t0 (s : State) (p : Prim) (hp : currentPrim s = some p) (hm : s.seq.mph = .t0) :
    microStep s = .next (phaseT0 s) := by simp [microStep, hp, hm]

theorem microStep_arm (s : State) (p : Prim) (hp : currentPrim s = some p) (hm : s.seq.mph = .arm) :
    microStep s = .next (phaseArm p s) := by simp [microStep, hp, hm]

theorem microStep_poll (s : State) (p : Prim) (hp : currentPrim s = some p) (hm : s.seq.mph = .poll) :
    microStep s = .next (phasePoll p s) := by simp [microStep, hp, hm]

theorem microStep_status (s : State) (p : Prim) (hp : currentPrim s = some p) (hm : s.seq.mph = .status) :
    microStep s = .next (phaseStatus p s) := by simp [microStep, hp, hm]

theorem microStep_lock0 (s : State) (p : Prim) (hp : currentPrim s = some p) (hm : s.seq.mph = .lock0) :
    microStep s = .next (lockupFirst s) := by simp [microStep, hp, hm]

theorem microStep_lock1 (s : State) (p : Prim) (hp : currentPrim s = some p) (hm : s.seq.mph = .lock1) :
    microStep s = .next (lockupSecond s) := by simp [microStep, hp, hm]

theorem microStep_done (s : State) (p : Prim) (hp : currentPrim s = some p) (hm : s.seq.mph = .done) :
    microStep s = .next (phaseDone s) := by simp [microStep, hp, hm]

/-- Every way a micro-phase of the engine can end. -/
theorem microStep_cases (s t : State) (h : microStep s = .next t) :
    (currentPrim s = none ∧ t = s) ∨
      ∃ p, currentPrim s = some p ∧
        ((s.seq.mph = .data ∧ t = phaseData p s) ∨ (s.seq.mph = .t0 ∧ t = phaseT0 s) ∨
          (s.seq.mph = .arm ∧ t = phaseArm p s) ∨ (s.seq.mph = .poll ∧ t = phasePoll p s) ∨
          (s.seq.mph = .status ∧ t = phaseStatus p s) ∨
          (s.seq.mph = .rdData ∧ flagX s.opc = true ∧ t = nextReceive (rxAppend s.data s)) ∨
          (s.seq.mph = .rdData ∧ flagX s.opc = false ∧ s.seq.idx.toNat < s.cfg.rxcap ∧
            t = nextReceive (storeByte s)) ∨
          (s.seq.mph = .lock0 ∧ t = lockupFirst s) ∨ (s.seq.mph = .lock1 ∧ t = lockupSecond s) ∨
          (s.seq.mph = .done ∧ t = phaseDone s)) := by
  unfold microStep at h
  cases hp : currentPrim s with
  | none =>
    rw [hp] at h
    exact .inl ⟨rfl, by cases h; rfl⟩
  | some p =>
    rw [hp] at h
    refine .inr ⟨p, rfl, ?_⟩
    cases hm : s.seq.mph <;> rw [hm] at h <;> dsimp only at h
    case rdData =>
      unfold phaseRdData at h
      split at h
      · rename_i hx
        exact .inr (.inr (.inr (.inr (.inr (.inl ⟨rfl, hx, by cases h; rfl⟩)))))
      · rename_i hx
        split at h
        · rename_i hi
          exact .inr (.inr (.inr (.inr (.inr (.inr (.inl
            ⟨rfl, by simpa using hx, hi, by cases h; rfl⟩))))))
        · cases h
    all_goals
      cases h
      simp

/-- A micro-phase faults only in `M_RDDATA` of a buffer-less read whose index is outside `RXBUF` (R63; log entry 14),
and refuses never. -/
theorem microStep_stops (s : State) (h : ∀ t, microStep s ≠ .next t) :
    s.seq.mph = .rdData ∧ flagX s.opc = false ∧ s.cfg.rxcap ≤ s.seq.idx.toNat := by
  unfold microStep at h
  cases hp : currentPrim s with
  | none => simp [hp] at h
  | some p =>
    rw [hp] at h
    cases hm : s.seq.mph <;> rw [hm] at h
    case rdData =>
      simp only [phaseRdData] at h
      split at h
      · simp at h
      · rename_i hx
        split at h
        · simp at h
        · rename_i hi
          exact ⟨rfl, by simpa using hx, by omega⟩
    all_goals simp at h

/-- What no micro-phase changes: the threshold, the clock, the error flag, the operand latches, the cursor, the command
stream, the script and the parameters. -/
structure EngineKeeps (s t : State) : Prop where
  timeout : t.timeout = s.timeout
  now : t.now = s.now
  cmderr : t.cmderr = s.cmderr
  opc : t.opc = s.opc
  sla : t.sla = s.sla
  sel : t.sel = s.sel
  cnt : t.cnt = s.cnt
  txlen : t.txlen = s.txlen
  txbuf : t.txbuf = s.txbuf
  cursor : t.cursor = s.cursor
  cmdq : t.cmdq = s.cmdq
  script : t.script = s.script
  cfg : t.cfg = s.cfg

theorem engineKeeps_refl (s : State) : EngineKeeps s s := by constructor <;> rfl

theorem engineKeeps_of_advanced {s t u : State} (h : EngineKeeps s t) (a : Advanced t u) : EngineKeeps s u := by
  obtain ⟨q, c, b, r, e, rfl⟩ := a
  exact ⟨h.timeout, h.now, h.cmderr, h.opc, h.sla, h.sel, h.cnt, h.txlen, h.txbuf, h.cursor, h.cmdq, h.script, h.cfg⟩

/-- What a micro-phase leaves alone besides, unless it stores a received byte. -/
structure BufferKeeps (s t : State) : Prop where
  rxbuf : t.rxbuf = s.rxbuf
  avail : t.avail = s.avail
  total : t.total = s.total

theorem bufferKeeps_of_advanced {s t u : State} (h : BufferKeeps s t) (a : Advanced t u) : BufferKeeps s u := by
  obtain ⟨q, c, b, r, e, rfl⟩ := a
  exact ⟨h.rxbuf, h.avail, h.total⟩

theorem phaseDone_keeps (s : State) :
    EngineKeeps s (phaseDone s) ∧ BufferKeeps s (phaseDone s) ∧ (phaseDone s).rxout = s.rxout := by
  unfold phaseDone
  split
  · exact ⟨by constructor <;> rfl, by constructor <;> rfl, rfl⟩
  · have h := advanced_checkOutcome s
    refine ⟨engineKeeps_of_advanced (engineKeeps_refl s) h, bufferKeeps_of_advanced (by constructor <;> rfl) h, ?_⟩
    obtain ⟨q, c, b, r, e, h⟩ := h
    rw [h]

/-- The frame of a micro-phase. `RXOUT` grows only in `M_RDDATA` of a read into the caller's buffer, and the
ReceiveBuffer changes only in `M_RDDATA` of a buffer-less read. -/
theorem microStep_keeps (s t : State) (h : microStep s = .next t) :
    EngineKeeps s t ∧ (¬(s.seq.mph = .rdData ∧ flagX s.opc = false) → BufferKeeps s t) ∧
      (¬(s.seq.mph = .rdData ∧ flagX s.opc = true) → t.rxout = s.rxout) := by
  rcases microStep_cases s t h with ⟨_, rfl⟩ | ⟨p, _, h⟩
  · exact ⟨engineKeeps_refl _, fun _ => by constructor <;> rfl, fun _ => rfl⟩
  · rcases h with ⟨_, rfl⟩ | ⟨_, rfl⟩ | ⟨_, rfl⟩ | ⟨_, rfl⟩ | ⟨_, rfl⟩ | ⟨hm, hx, rfl⟩ | ⟨hm, hx, _, rfl⟩ | ⟨_, rfl⟩ |
      ⟨_, rfl⟩ | ⟨_, rfl⟩
    · unfold phaseData
      split
      · exact ⟨by constructor <;> rfl, fun _ => by constructor <;> rfl, fun _ => rfl⟩
      · exact ⟨by constructor <;> rfl, fun _ => by constructor <;> rfl, fun _ => rfl⟩
    · exact ⟨by constructor <;> rfl, fun _ => by constructor <;> rfl, fun _ => rfl⟩
    · exact ⟨by constructor <;> simp [phaseArm], fun _ => by constructor <;> simp [phaseArm],
        fun _ => by simp [phaseArm]⟩
    · unfold phasePoll
      split
      · cases p <;> exact ⟨by constructor <;> rfl, fun _ => by constructor <;> rfl, fun _ => rfl⟩
      · exact ⟨by constructor <;> rfl, fun _ => by constructor <;> rfl, fun _ => rfl⟩
      · exact ⟨engineKeeps_refl _, fun _ => by constructor <;> rfl, fun _ => rfl⟩
    · unfold phaseStatus
      split <;> exact ⟨by constructor <;> rfl, fun _ => by constructor <;> rfl, fun _ => rfl⟩
    · have ha := advanced_nextReceive (rxAppend s.data s)
      refine ⟨engineKeeps_of_advanced (by constructor <;> rfl) ha,
        fun _ => bufferKeeps_of_advanced (by constructor <;> rfl) ha, fun hn => absurd ⟨hm, hx⟩ hn⟩
    · have ha := advanced_nextReceive (storeByte s)
      refine ⟨engineKeeps_of_advanced (by constructor <;> rfl) ha, fun hn => absurd ⟨hm, hx⟩ hn, fun _ => ?_⟩
      obtain ⟨q, c, b, r, e, h⟩ := ha
      rw [h]
      rfl
    · exact ⟨by constructor <;> simp [lockupFirst], fun _ => by constructor <;> simp [lockupFirst],
        fun _ => by simp [lockupFirst]⟩
    · exact ⟨by constructor <;> simp [lockupSecond], fun _ => by constructor <;> simp [lockupSecond],
        fun _ => by simp [lockupSecond]⟩
    · have hd := phaseDone_keeps s
      exact ⟨hd.1, fun _ => hd.2.1, fun _ => hd.2.2⟩

/-- A micro-phase gives no response and leaves `BUSY`, or ends the command with its return code as the one response
(R115). -/
abbrev RespondsAtItsEnd (s t : State) : Prop :=
  (t.busy = s.busy ∧ t.rspq = s.rspq) ∨ (t.busy = false ∧ t.rspq = s.rspq ++ [t.rc])

theorem advance_responds (s : State) : RespondsAtItsEnd s (advance s) := by
  have begins (k : TStep) (g : Seg) (i : Byte) : RespondsAtItsEnd s (beginStep k g i s) := .inl ⟨rfl, rfl⟩
  have ends : RespondsAtItsEnd s (finish 0 s) := .inr ⟨rfl, rfl⟩
  have payload (i : Byte) : RespondsAtItsEnd s (payloadOrStop i s) := by
    unfold payloadOrStop
    split <;> exact begins _ _ _
  unfold advance advanceWrite advanceRead advanceRRead
  cases kindOf s.opc <;> cases s.seq.tstep <;> cases s.seq.seg <;>
    first | exact ends | exact begins _ _ _ | exact payload _ | exact .inl ⟨rfl, rfl⟩

theorem microStep_responds (s t : State) (h : microStep s = .next t) : RespondsAtItsEnd s t := by
  have stores (u : State) (hb : u.busy = s.busy) (hq : u.rspq = s.rspq) : RespondsAtItsEnd s (nextReceive u) := by
    unfold nextReceive
    split <;> exact .inl ⟨hb, hq⟩
  rcases microStep_cases s t h with ⟨_, rfl⟩ | ⟨p, _, h⟩
  · exact .inl ⟨rfl, rfl⟩
  · rcases h with ⟨_, rfl⟩ | ⟨_, rfl⟩ | ⟨_, rfl⟩ | ⟨_, rfl⟩ | ⟨_, rfl⟩ | ⟨_, _, rfl⟩ | ⟨_, _, _, rfl⟩ | ⟨_, rfl⟩ |
      ⟨_, rfl⟩ | ⟨_, rfl⟩
    · unfold phaseData
      split <;> exact .inl ⟨rfl, rfl⟩
    · exact .inl ⟨rfl, rfl⟩
    · exact .inl ⟨by simp [phaseArm], by simp [phaseArm]⟩
    · unfold phasePoll
      split
      · cases p <;> exact .inl ⟨rfl, rfl⟩
      · exact .inl ⟨rfl, rfl⟩
      · exact .inl ⟨rfl, rfl⟩
    · unfold phaseStatus
      split <;> exact .inl ⟨rfl, rfl⟩
    · exact stores _ rfl rfl
    · exact stores _ rfl rfl
    · exact .inl ⟨by simp [lockupFirst], by simp [lockupFirst]⟩
    · exact .inl ⟨by simp [lockupSecond], by simp [lockupSecond]⟩
    · unfold phaseDone
      split
      · exact .inl ⟨rfl, rfl⟩
      · unfold checkOutcome
        cases s.outc
        · exact advance_responds s
        · exact .inr ⟨rfl, rfl⟩
        · exact .inr ⟨rfl, rfl⟩

theorem firstPhase_ne_rdData (k : TStep) : firstPhase k ≠ .rdData := by cases k <;> simp [firstPhase]

theorem nextReceive_ne_rdData (s : State) : (nextReceive s).seq.mph ≠ .rdData := by
  unfold nextReceive
  split <;> simp [firstPhase]

theorem payloadOrStop_ne_rdData (i : Byte) (s : State) : (payloadOrStop i s).seq.mph ≠ .rdData := by
  unfold payloadOrStop
  split <;> simp [firstPhase]

/-- Only a read goes on to `M_RDDATA` (R121). -/
theorem advance_rdData (s : State) (h : (advance s).seq.mph = .rdData) : isReadKind (kindOf s.opc) = true := by
  unfold advance at h
  cases hk : kindOf s.opc <;> rw [hk] at h <;> dsimp only at h
  case primitive => simp [SeqPtr.rest] at h
  case write =>
    unfold advanceWrite at h
    cases hs : s.seq.tstep <;> rw [hs] at h <;> dsimp only at h
    case dataSend =>
      cases hg : s.seq.seg <;> rw [hg] at h <;> dsimp only at h
      case selHi => simp [firstPhase] at h
      all_goals exact absurd h (payloadOrStop_ne_rdData _ s)
    all_goals simp [firstPhase, beginSelector, SeqPtr.rest] at h
  all_goals rfl

/-- Only a read reaches `M_RDDATA` (R121). -/
theorem microStep_rdData (s t : State) (h : microStep s = .next t) (ht : t.seq.mph = .rdData) :
    s.seq.mph = .rdData ∨ isReadKind (kindOf s.opc) = true := by
  rcases microStep_cases s t h with ⟨_, rfl⟩ | ⟨p, _, h⟩
  · exact .inl ht
  · rcases h with ⟨_, rfl⟩ | ⟨_, rfl⟩ | ⟨_, rfl⟩ | ⟨hm, rfl⟩ | ⟨_, rfl⟩ | ⟨_, _, rfl⟩ | ⟨_, _, _, rfl⟩ | ⟨_, rfl⟩ |
      ⟨_, rfl⟩ | ⟨_, rfl⟩
    · unfold phaseData at ht
      split at ht <;> simp at ht
    · simp [phaseT0] at ht
    · simp [phaseArm] at ht
    · unfold phasePoll at ht
      split at ht
      · cases p <;> simp [afterCompletion] at ht
      · simp at ht
      · simp [hm] at ht
    · unfold phaseStatus at ht
      split at ht <;> simp [beginNestedStop] at ht
    · exact absurd ht (nextReceive_ne_rdData _)
    · exact absurd ht (nextReceive_ne_rdData _)
    · simp [lockupFirst] at ht
    · simp [lockupSecond] at ht
    · unfold phaseDone at ht
      split at ht
      · simp [endNestedStop] at ht
      · unfold checkOutcome at ht
        cases ho : s.outc <;> rw [ho] at ht <;> dsimp only at ht
        · exact .inr (advance_rdData s ht)
        all_goals simp [SeqPtr.rest] at ht

/-- The induction over the turns of a command: what every turn of the script keeps while the command runs, the whole
run keeps. -/
theorem runTurns_induct (P : State → Prop) (ok : Turn → Prop)
    (turn : ∀ u s s', ok u → P s → s.busy = true → turnStep u s = .next s' → P s')
    (script : ∀ l s, P s → P { s with script := l }) :
    ∀ (ts : List Turn) (s t : State), (∀ u ∈ ts, ok u) → P s → runTurns ts s = .next t → P t := by
  intro ts
  induction ts with
  | nil =>
    intro s t _ hs h
    cases h
    exact script [] s hs
  | cons u us ih =>
    intro s t hok hs h
    unfold runTurns at h
    split at h
    · split at h
      · rename_i hb _ s' hu
        exact ih s' t (fun v hv => hok v (List.mem_cons_of_mem u hv)) (turn u s s' (hok u List.mem_cons_self) hs hb hu) h
      · cases h
      · cases h
    · cases h
      exact script (u :: us) s hs

/-- A command that runs was admitted: no command ran and no error was flagged (R27, R28). -/
theorem runCommand_cases (latch : State → State) (s t : State) (h : runCommand latch s = .next t) :
    s.busy = false ∧ s.cmderr = false ∧ runTurns s.script (latch s) = .next t := by
  unfold runCommand admitCommand at h
  split at h
  · cases h
  · split at h
    · cases h
    · exact ⟨by simp_all, by simp_all, h⟩

theorem runCommand_ready (latch : State → State) (s : State) (hb : s.busy = false) (hc : s.cmderr = false) :
    runCommand latch s = runTurns s.script (latch s) := by
  simp [runCommand, admitCommand, hb, hc]

theorem runLocal_cases (o : Op) (k : State → Result) (s t : State) (h : runLocal o k s = .next t) :
    s.busy = false ∧ s.cmderr = false ∧ k (latchOpc o s) = .next t := by
  unfold runLocal admitCommand at h
  split at h
  · cases h
  · split at h
    · cases h
    · exact ⟨by simp_all, by simp_all, h⟩

/-! Running turns one at a time. -/

@[simp] theorem runTurns_nil (s : State) : runTurns [] s = .next { s with script := [] } := rfl

theorem runTurns_ended (ts : List Turn) (s : State) (h : s.busy = false) :
    runTurns ts s = .next { s with script := ts } := by
  cases ts with
  | nil => rfl
  | cons t ts => simp [runTurns, h]

theorem runTurns_engine (ts : List Turn) (s s' : State) (hb : s.busy = true) (h : microStep s = .next s') :
    runTurns (.engine :: ts) s = runTurns ts s' := by
  simp [runTurns, hb, turnStep, h]

theorem runTurns_env (e : EnvEvent) (ts : List Turn) (s : State) (hb : s.busy = true) :
    runTurns (.env e :: ts) s = runTurns ts (envStep e s) := by
  simp [runTurns, hb, turnStep]

end Sys2Proof.Machine
end

