-- ==== Sys2Proof/Laws/Exec.lean ====
section
/-! SUPPORT. What the execution of an instruction can do, said once for all instructions: a write of the control
register, a command that responds at once, or the run of a command that uses the bus. -/
namespace Sys2Proof.Machine

/-- The commands that use the bus (R145, R150); the others respond at once (R175) or are control-register writes. -/
def usesBus : Instr → Bool
  | .start => true
  | .startR => true
  | .saddrW _ => true
  | .saddrR _ => true
  | .sbyte _ => true
  | .rbyteN => true
  | .rbyteA => true
  | .stop => true
  | .getd => false
  | .write8 _ _ _ => true
  | .write16 _ _ _ => true
  | .read _ _ => true
  | .readX _ _ => true
  | .rread8 _ _ _ => true
  | .rread16 _ _ _ => true
  | .rread8X _ _ _ => true
  | .rread16X _ _ _ => true
  | .setto _ => false
  | .avail => false
  | .recv => false
  | .armStart => false
  | .armSend => false
  | .armRecvAck => false
  | .armRecvNack => false
  | .armStop => false
  | .ctrlDisable => false
  | .ctrlIdle => false

/-- The state in which a command that uses the bus begins to run: its operands latched, its first step begun. -/
def begun (i : Instr) (s : State) : State :=
  match i with
  | .start => beginStep .start .payload 0 (latchOpc .start s)
  | .startR => beginStep .repeatedStart .payload 0 (latchOpc .startR s)
  | .saddrW a => beginStep .addressWrite .payload 0 (latchSla a (latchOpc .saddrW s))
  | .saddrR a => beginStep .addressRead .payload 0 (latchSla a (latchOpc .saddrR s))
  | .sbyte b => beginStep .dataSend .payload 0 (latchPayload [b] (latchOpc .sbyte s))
  | .rbyteN => beginStep .dataReceive .payload 0 (latchOpc .rbyteN s)
  | .rbyteA => beginStep .dataReceive .payload 0 (latchOpc .rbyteA s)
  | .stop => beginStep .stop .payload 0 (latchOpc .stop s)
  | .write8 a e d =>
    beginStep .start .payload 0 (latchPayload d (latchSel8 e (latchSla a (latchOpc .write8 s))))
  | .write16 a e d =>
    beginStep .start .payload 0 (latchPayload d (latchSel16 e (latchSla a (latchOpc .write16 s))))
  | .read a c => beginStep .start .payload 0 (clearReceive (latchCnt c (latchSla a (latchOpc .read s))))
  | .readX a c => beginStep .start .payload 0 (clearReceive (latchCnt c (latchSla a (latchOpc .readX s))))
  | .rread8 a e c =>
    beginStep .start .payload 0 (clearReceive (latchCnt c (latchSel8 e (latchSla a (latchOpc .rread8 s)))))
  | .rread16 a e c =>
    beginStep .start .payload 0 (clearReceive (latchCnt c (latchSel16 e (latchSla a (latchOpc .rread16 s)))))
  | .rread8X a e c =>
    beginStep .start .payload 0 (clearReceive (latchCnt c (latchSel8 e (latchSla a (latchOpc .rread8X s)))))
  | .rread16X a e c =>
    beginStep .start .payload 0 (clearReceive (latchCnt c (latchSel16 e (latchSla a (latchOpc .rread16X s)))))
  | .getd => s
  | .setto _ => s
  | .avail => s
  | .recv => s
  | .armStart => s
  | .armSend => s
  | .armRecvAck => s
  | .armRecvNack => s
  | .armStop => s
  | .ctrlDisable => s
  | .ctrlIdle => s

/-- A buffer-less read empties the ReceiveBuffer (R159). -/
theorem clearReceive_buffer (s : State) (h : flagX s.opc = false) :
    clearReceive s = { s with avail := 0, cursor := 0, total := 0 } := by simp [clearReceive, h]

/-- A read into the caller's buffer leaves it alone (R159). -/
theorem clearReceive_caller (s : State) (h : flagX s.opc = true) : clearReceive s = s := by simp [clearReceive, h]

theorem exec_usesBus (i : Instr) (s : State) (h : usesBus i = true) : exec i s = runCommand (begun i) s := by
  cases i
  case getd | avail | recv | armStart | armSend | armRecvAck | armRecvNack | armStop | ctrlDisable | ctrlIdle =>
    exact absurd h (by decide)
  case setto ms => simp [usesBus] at h
  all_goals rfl

theorem exec_ready (i : Instr) (s : State) (h : usesBus i = true) (r : Ready s) :
    exec i s = runTurns s.script (begun i s) := by
  rw [exec_usesBus i s h, runCommand_ready (begun i) s r.1 r.2]

/-- A control-register write as an instruction is the write alone. -/
theorem exec_ctrl (i : Instr) (w : Ctrl) (s : State) (h : encodeCtrl i = some w) : exec i s = .next (ctrlWrite w s) := by
  cases i <;> simp only [encodeCtrl, Option.some.injEq, reduceCtorEq] at h <;> subst h <;> rfl

/-- Every way an instruction can answer a next state. -/
theorem exec_cases (i : Instr) (s t : State) (h : exec i s = .next t) :
    (∃ w, encodeCtrl i = some w ∧ t = ctrlWrite w s) ∨
      (Ready s ∧ usesBus i = true ∧ runTurns s.script (begun i s) = .next t) ∨
      (Ready s ∧ ∃ ms, i = .setto ms ∧ t = respond 0 { latchOpc .setto s with timeout := ms }) ∨
      (Ready s ∧ i = .avail ∧ t = respond s.avail (latchOpc .avail s)) ∨
      (Ready s ∧ i = .getd ∧ t = respond s.data (latchOpc .getd s)) ∨
      (Ready s ∧ i = .recv ∧ s.avail = 0 ∧ t = respond 0 (latchOpc .recv s)) ∨
      (Ready s ∧ i = .recv ∧ s.avail ≠ 0 ∧ s.cursor.toNat < s.cfg.rxcap ∧
        t = respond (s.rxbuf.read s.cursor.toNat)
          { latchOpc .recv s with cursor := s.cursor + 1, avail := s.avail - 1 }) := by
  cases hu : usesBus i
  · cases i
    case setto ms =>
      unfold exec execSetto at h
      obtain ⟨hb, hc, h⟩ := runLocal_cases .setto _ s t h
      exact .inr (.inr (.inl ⟨⟨hb, hc⟩, ms, rfl, by cases h; rfl⟩))
    case avail =>
      unfold exec execAvail at h
      obtain ⟨hb, hc, h⟩ := runLocal_cases .avail _ s t h
      exact .inr (.inr (.inr (.inl ⟨⟨hb, hc⟩, rfl, by cases h; rfl⟩)))
    case getd =>
      unfold exec execGetd at h
      obtain ⟨hb, hc, h⟩ := runLocal_cases .getd _ s t h
      exact .inr (.inr (.inr (.inr (.inl ⟨⟨hb, hc⟩, rfl, by cases h; rfl⟩))))
    case recv =>
      unfold exec execRecv at h
      obtain ⟨hb, hc, h⟩ := runLocal_cases .recv _ s t h
      split at h
      · rename_i h0
        exact .inr (.inr (.inr (.inr (.inr (.inl ⟨⟨hb, hc⟩, rfl, h0, by cases h; rfl⟩)))))
      · rename_i h0
        split at h
        · rename_i h1
          exact .inr (.inr (.inr (.inr (.inr (.inr ⟨⟨hb, hc⟩, rfl, h0, h1, by cases h; rfl⟩)))))
        · cases h
    case armStart | armSend | armRecvAck | armRecvNack | armStop | ctrlDisable | ctrlIdle =>
      exact .inl ⟨_, rfl, by cases h; rfl⟩
    all_goals simp [usesBus] at hu
  · rw [exec_usesBus i s hu] at h
    obtain ⟨hb, hc, h⟩ := runCommand_cases (begun i) s t h
    exact .inr (.inl ⟨⟨hb, hc⟩, rfl, h⟩)

/-- What the latching of a command leaves alone: everything but its operands, the sequencer and, for a buffer-less
read, the counts of the ReceiveBuffer. -/
theorem begun_keeps (i : Instr) (s : State) (h : usesBus i = true) :
    (begun i s).timeout = s.timeout ∧ (begun i s).now = s.now ∧ (begun i s).cmderr = s.cmderr ∧
      (begun i s).cmdq = s.cmdq ∧ (begun i s).script = s.script ∧ (begun i s).cfg = s.cfg ∧
      (begun i s).ctrl = s.ctrl ∧ (begun i s).status = s.status ∧ (begun i s).data = s.data ∧
      (begun i s).pend = s.pend ∧ (begun i s).held = s.held ∧ (begun i s).mode = s.mode ∧
      (begun i s).line = s.line ∧ (begun i s).rxbuf = s.rxbuf ∧ (begun i s).rxout = s.rxout ∧
      (begun i s).rspq = s.rspq ∧ (begun i s).ev = s.ev ∧ (begun i s).busy = true ∧ (begun i s).rc = s.rc ∧
      (begun i s).t0 = s.t0 ∧ (begun i s).saved = s.saved ∧ (begun i s).outc = s.outc := by
  cases i
  case getd | avail | recv | armStart | armSend | armRecvAck | armRecvNack | armStop | ctrlDisable | ctrlIdle =>
    exact absurd h (by decide)
  case setto ms => simp [usesBus] at h
  case read | readX | rread8 | rread16 | rread8X | rread16X =>
    simp only [begun, clearReceive]
    split <;> simp
  all_goals simp [begun]

/-- Every way the engine's turn can answer a next state. -/
theorem engineTurn_cases (s t : State) (h : engineTurn s = .next t) :
    (s.busy = true ∧ microStep s = .next t) ∨
      (s.busy = false ∧ t = s) ∨
      (s.busy = false ∧ s.cmderr = false ∧ t = commandError s) ∨
      (s.busy = false ∧ s.cmderr = false ∧
        ∃ i rest, decodePacket s.cmdq = .ok i rest ∧ exec i { s with cmdq := rest } = .next t) := by
  unfold engineTurn at h
  split at h
  · rename_i hb
    exact .inl ⟨hb, h⟩
  · rename_i hb
    have hb' : s.busy = false := by simpa using hb
    cases hf : fetch s <;> rw [hf] at h <;> dsimp only at h
    case idle => exact .inr (.inl ⟨hb', by cases h; rfl⟩)
    case illegal =>
      refine .inr (.inr (.inl ⟨hb', ?_, by cases h; rfl⟩))
      unfold fetch at hf
      split at hf
      · cases hf
      · simp_all
    case command i rest =>
      unfold fetch at hf
      split at hf
      · cases hf
      · rename_i hc
        cases hd : decodePacket s.cmdq <;> rw [hd] at hf <;> cases hf
        exact .inr (.inr (.inr ⟨hb', by simpa using hc, i, rest, rfl, h⟩))

/-- Every way a step can answer a next state: the engine's turn, or another agent's. -/
theorem step_cases (s t : State) (h : step s = .next t) :
    (∃ l, (s.script = [] ∧ l = [] ∨ s.script = .engine :: l) ∧ engineTurn { s with script := l } = .next t) ∨
      ∃ e l, s.script = .env e :: l ∧ t = envStep e { s with script := l } := by
  cases hs : s.script with
  | nil =>
    rw [step_empty s hs] at h
    refine .inl ⟨[], .inl ⟨rfl, rfl⟩, ?_⟩
    rw [← hs]
    exact h
  | cons u l =>
    cases u with
    | engine =>
      rw [step_engine s l hs] at h
      exact .inl ⟨l, .inr rfl, h⟩
    | env e =>
      rw [step_env s e l hs] at h
      exact .inr ⟨e, l, rfl, by cases h; rfl⟩

end Sys2Proof.Machine
end

