-- ==== Sys2Proof/Laws/Memory.lean ====
section
/-! SUPPORT. The laws of the byte arrays: a read after a write, the canonical form, and the index bound. -/
namespace Sys2Proof.Machine

/-- A canonical array whose addresses start at `lo` holds nothing below `lo`. -/
theorem Memory.read_below (m : Memory) (lo a : Nat) (h : Memory.wfFrom lo m = true) (ha : a < lo) :
    Memory.read m a = 0 := by
  induction m generalizing lo with
  | nil => rfl
  | cons c m ih =>
    obtain ⟨b, v⟩ := c
    simp only [Memory.wfFrom, Bool.and_eq_true, decide_eq_true_eq] at h
    have : a ≠ b := by omega
    simp only [Memory.read, this, if_false]
    exact ih (b + 1) h.2 (by omega)

theorem Memory.wfFrom_mono (m : Memory) (lo hi : Nat) (h : Memory.wfFrom hi m = true) (hl : lo ≤ hi) :
    Memory.wfFrom lo m = true := by
  cases m with
  | nil => rfl
  | cons c m =>
    obtain ⟨b, v⟩ := c
    simp only [Memory.wfFrom, Bool.and_eq_true, decide_eq_true_eq] at h ⊢
    exact ⟨⟨by omega, h.1.2⟩, h.2⟩

/-- A read of the cell just written gives the value written. -/
theorem Memory.read_write_same_from (m : Memory) (lo a : Nat) (v : Byte) (h : Memory.wfFrom lo m = true) :
    Memory.read (Memory.write m a v) a = v := by
  induction m generalizing lo with
  | nil =>
    simp only [Memory.write]
    split
    · rename_i hv
      exact hv ▸ rfl
    · simp [Memory.read]
  | cons c m ih =>
    obtain ⟨b, w⟩ := c
    have hc := h
    simp only [Memory.wfFrom, Bool.and_eq_true, decide_eq_true_eq] at h
    simp only [Memory.write]
    split
    · rename_i hab
      split
      · rename_i hv
        rw [hv]
        refine Memory.read_below _ b a ?_ hab
        simp only [Memory.wfFrom, Bool.and_eq_true, decide_eq_true_eq]
        exact ⟨⟨le_refl b, h.1.2⟩, h.2⟩
      · simp [Memory.read]
    · split
      · rename_i hab
        split
        · rename_i hv
          rw [hv]
          exact Memory.read_below _ (b + 1) a h.2 (by omega)
        · simp [Memory.read]
      · rename_i h1 h2
        simp only [Memory.read, h2, if_false]
        exact ih _ h.2

/-- A write leaves every other cell alone. -/
theorem Memory.read_write_other (m : Memory) (a k : Nat) (v : Byte) (hk : k ≠ a) :
    Memory.read (Memory.write m a v) k = Memory.read m k := by
  induction m with
  | nil =>
    simp only [Memory.write]
    split <;> simp [Memory.read, hk]
  | cons c m ih =>
    obtain ⟨b, w⟩ := c
    simp only [Memory.write]
    split
    · split <;> simp [Memory.read, hk]
    · split
      · rename_i hab
        subst hab
        split <;> simp [Memory.read, hk]
      · simp only [Memory.read, ih]

theorem Memory.read_write (m : Memory) (a k : Nat) (v : Byte) (h : m.wf = true) :
    Memory.read (Memory.write m a v) k = if k = a then v else Memory.read m k := by
  split
  · rename_i hk
    rw [hk]
    exact Memory.read_write_same_from m 0 a v h
  · rename_i hk
    exact Memory.read_write_other m a k v hk

theorem Memory.wfFrom_write (m : Memory) (lo a : Nat) (v : Byte) (h : Memory.wfFrom lo m = true) (ha : lo ≤ a) :
    Memory.wfFrom lo (Memory.write m a v) = true := by
  induction m generalizing lo with
  | nil =>
    simp only [Memory.write]
    split
    · rfl
    · rename_i hv
      simp only [Memory.wfFrom, Bool.and_eq_true, decide_eq_true_eq]
      exact ⟨⟨ha, hv⟩, trivial⟩
  | cons c m ih =>
    obtain ⟨b, w⟩ := c
    have hc := h
    simp only [Memory.wfFrom, Bool.and_eq_true, decide_eq_true_eq] at h
    simp only [Memory.write]
    split
    · split
      · exact hc
      · rename_i hab hv
        simp only [Memory.wfFrom, Bool.and_eq_true, decide_eq_true_eq]
        exact ⟨⟨ha, hv⟩, ⟨by omega, h.1.2⟩, h.2⟩
    · split
      · rename_i hab
        split
        · exact Memory.wfFrom_mono m lo (b + 1) h.2 (by omega)
        · rename_i hv
          simp only [Memory.wfFrom, Bool.and_eq_true, decide_eq_true_eq]
          exact ⟨⟨ha, hv⟩, hab ▸ h.2⟩
      · simp only [Memory.wfFrom, Bool.and_eq_true, decide_eq_true_eq]
        exact ⟨h.1, ih (b + 1) h.2 (by omega)⟩

/-- A write keeps the canonical form. -/
theorem Memory.wf_write (m : Memory) (a : Nat) (v : Byte) (h : m.wf = true) : (Memory.write m a v).wf = true :=
  Memory.wfFrom_write m 0 a v h (Nat.zero_le a)

/-- A write inside the index space keeps the array inside it. -/
theorem Memory.below_write (m : Memory) (n a : Nat) (v : Byte) (h : m.below n = true) (ha : a < n) :
    (Memory.write m a v).below n = true := by
  induction m with
  | nil =>
    simp only [Memory.write]
    split <;> simp [Memory.below, ha]
  | cons c m ih =>
    obtain ⟨b, w⟩ := c
    simp only [Memory.below, List.all_cons, Bool.and_eq_true, decide_eq_true_eq] at h ih
    simp only [Memory.write]
    split
    · split <;> simp only [Memory.below, List.all_cons, Bool.and_eq_true, decide_eq_true_eq, h, ha, and_self]
    · split
      · split <;> simp only [Memory.below, List.all_cons, Bool.and_eq_true, decide_eq_true_eq, h, ha, and_self]
      · simp only [Memory.below, List.all_cons, Bool.and_eq_true, decide_eq_true_eq]
        exact ⟨h.1, ih h.2⟩

theorem Memory.wf_writeList (l : List Byte) (m : Memory) (a : Nat) (h : m.wf = true) :
    (Memory.writeList m a l).wf = true := by
  induction l generalizing m a with
  | nil => exact h
  | cons v vs ih => exact ih _ _ (Memory.wf_write m a v h)

theorem Memory.below_writeList (l : List Byte) (m : Memory) (n a : Nat) (h : m.below n = true)
    (ha : a + l.length ≤ n) : (Memory.writeList m a l).below n = true := by
  induction l generalizing m a with
  | nil => exact h
  | cons v vs ih =>
    simp only [List.length_cons] at ha
    exact ih _ _ (Memory.below_write m n a v h (by omega)) (by omega)

/-- Reading back a run of writes: the values written, and every other cell as before. -/
theorem Memory.read_writeList (l : List Byte) (m : Memory) (a k : Nat) (h : m.wf = true) :
    Memory.read (Memory.writeList m a l) k = if a ≤ k ∧ k < a + l.length then l.getD (k - a) 0 else m.read k := by
  induction l generalizing m a with
  | nil =>
    have : ¬ (a ≤ k ∧ k < a + ([] : List Byte).length) := by simp
    rw [if_neg this]
    rfl
  | cons v vs ih =>
    simp only [Memory.writeList, List.length_cons]
    rw [ih _ _ (Memory.wf_write m a v h), Memory.read_write m a k v h]
    by_cases h1 : k = a
    · rw [if_neg (by omega), if_pos h1, if_pos (by omega), h1, Nat.sub_self, List.getD_cons_zero]
    · by_cases h2 : a + 1 ≤ k ∧ k < a + 1 + vs.length
      · have h4 : k - a = (k - (a + 1)) + 1 := by omega
        rw [if_pos h2, if_pos (by omega), h4, List.getD_cons_succ]
      · rw [if_neg h2, if_neg h1, if_neg (by omega)]

theorem Memory.reset_wf : State.reset.rxbuf.wf = true ∧ State.reset.txbuf.wf = true := ⟨rfl, rfl⟩

end Sys2Proof.Machine
end

