-- ==== Sys2Proof/Laws/PerInstr.lean ====
section
/-! SUPPORT. One statement about every instruction as syntax: the shape of its encoding. -/
namespace Sys2Proof.Laws.PacketShape

/-- The packet has the length of its format (30_encoding R86); a host command is encoded as a packet and never as a
control-register value, a control-register write the other way round (R85, R97). -/
def Statement (i : Instr) : Prop :=
  (encodePacket i).length = packetLength i ∧ (i.isCommand = true ↔ encodeCtrl i = none) ∧
    (i.isCommand = true ↔ encode i = .packet (encodePacket i))

theorem start : Statement .start := by
  simp [Statement, encodePacket, packetLength, Instr.isCommand, encodeCtrl, encode]

theorem startR : Statement .startR := by
  simp [Statement, encodePacket, packetLength, Instr.isCommand, encodeCtrl, encode]

theorem saddrW (a7 : SlaveAddr) : Statement (.saddrW a7) := by
  simp [Statement, encodePacket, packetLength, Instr.isCommand, encodeCtrl, encode]

theorem saddrR (a7 : SlaveAddr) : Statement (.saddrR a7) := by
  simp [Statement, encodePacket, packetLength, Instr.isCommand, encodeCtrl, encode]

theorem sbyte (b : Byte) : Statement (.sbyte b) := by
  simp [Statement, encodePacket, packetLength, Instr.isCommand, encodeCtrl, encode]

theorem rbyteN : Statement .rbyteN := by
  simp [Statement, encodePacket, packetLength, Instr.isCommand, encodeCtrl, encode]

theorem rbyteA : Statement .rbyteA := by
  simp [Statement, encodePacket, packetLength, Instr.isCommand, encodeCtrl, encode]

theorem stop : Statement .stop := by
  simp [Statement, encodePacket, packetLength, Instr.isCommand, encodeCtrl, encode]

theorem getd : Statement .getd := by
  simp [Statement, encodePacket, packetLength, Instr.isCommand, encodeCtrl, encode]

theorem write8 (sla : SlaveAddr) (sel : Byte) (payload : List Byte) : Statement (.write8 sla sel payload) := by
  refine ⟨?_, by simp [Instr.isCommand, encodeCtrl], by simp [Instr.isCommand, encodeCtrl, encode]⟩
  simp only [encodePacket, packetLength, List.length_append, List.length_cons, List.length_nil]

theorem write16 (sla : SlaveAddr) (sel : Half) (payload : List Byte) : Statement (.write16 sla sel payload) := by
  refine ⟨?_, by simp [Instr.isCommand, encodeCtrl], by simp [Instr.isCommand, encodeCtrl, encode]⟩
  simp only [encodePacket, packetLength, List.length_append, List.length_cons, List.length_nil]

theorem read (sla : SlaveAddr) (cnt : Byte) : Statement (.read sla cnt) := by
  simp [Statement, encodePacket, packetLength, Instr.isCommand, encodeCtrl, encode]

theorem readX (sla : SlaveAddr) (cnt : Byte) : Statement (.readX sla cnt) := by
  simp [Statement, encodePacket, packetLength, Instr.isCommand, encodeCtrl, encode]

theorem rread8 (sla : SlaveAddr) (sel : Byte) (cnt : Byte) : Statement (.rread8 sla sel cnt) := by
  simp [Statement, encodePacket, packetLength, Instr.isCommand, encodeCtrl, encode]

theorem rread16 (sla : SlaveAddr) (sel : Half) (cnt : Byte) : Statement (.rread16 sla sel cnt) := by
  simp [Statement, encodePacket, packetLength, Instr.isCommand, encodeCtrl, encode]

theorem rread8X (sla : SlaveAddr) (sel : Byte) (cnt : Byte) : Statement (.rread8X sla sel cnt) := by
  simp [Statement, encodePacket, packetLength, Instr.isCommand, encodeCtrl, encode]

theorem rread16X (sla : SlaveAddr) (sel : Half) (cnt : Byte) : Statement (.rread16X sla sel cnt) := by
  simp [Statement, encodePacket, packetLength, Instr.isCommand, encodeCtrl, encode]

theorem setto (ms : Half) : Statement (.setto ms) := by
  simp [Statement, encodePacket, packetLength, Instr.isCommand, encodeCtrl, encode]

theorem avail : Statement .avail := by
  simp [Statement, encodePacket, packetLength, Instr.isCommand, encodeCtrl, encode]

theorem recv : Statement .recv := by
  simp [Statement, encodePacket, packetLength, Instr.isCommand, encodeCtrl, encode]

theorem armStart : Statement .armStart := by
  simp [Statement, encodePacket, packetLength, Instr.isCommand, encodeCtrl, encode]

theorem armSend : Statement .armSend := by
  simp [Statement, encodePacket, packetLength, Instr.isCommand, encodeCtrl, encode]

theorem armRecvAck : Statement .armRecvAck := by
  simp [Statement, encodePacket, packetLength, Instr.isCommand, encodeCtrl, encode]

theorem armRecvNack : Statement .armRecvNack := by
  simp [Statement, encodePacket, packetLength, Instr.isCommand, encodeCtrl, encode]

theorem armStop : Statement .armStop := by
  simp [Statement, encodePacket, packetLength, Instr.isCommand, encodeCtrl, encode]

theorem ctrlDisable : Statement .ctrlDisable := by
  simp [Statement, encodePacket, packetLength, Instr.isCommand, encodeCtrl, encode]

theorem ctrlIdle : Statement .ctrlIdle := by
  simp [Statement, encodePacket, packetLength, Instr.isCommand, encodeCtrl, encode]

end Sys2Proof.Laws.PacketShape
end

