-- ==== Sys2Proof/Laws/Status.lean ====
section
/-! SUPPORT. The eleven named statuses are pairwise distinct (30_encoding R101), so each has one effect on `HELD` and
`MODE` (43_bus_side R200) and one class (40_primitives R131, R134, R137, R140). -/
namespace Sys2Proof.Machine

/-- The named statuses are pairwise distinct, as one conjunction. -/
theorem named_ne (p : Params) (h : p.Ok) :
    p.stStart ≠ p.stRepStart ∧ p.stStart ≠ p.stMtSlaAck ∧ p.stStart ≠ p.stMtSlaNack ∧ p.stStart ≠ p.stMtDataAck ∧
    p.stStart ≠ p.stMtDataNack ∧ p.stStart ≠ p.stLostArb ∧ p.stStart ≠ p.stMrSlaAck ∧ p.stStart ≠ p.stMrSlaNack ∧
    p.stStart ≠ p.stMrDataAck ∧ p.stStart ≠ p.stMrDataNack ∧ p.stRepStart ≠ p.stMtSlaAck ∧
    p.stRepStart ≠ p.stMtSlaNack ∧ p.stRepStart ≠ p.stMtDataAck ∧ p.stRepStart ≠ p.stMtDataNack ∧
    p.stRepStart ≠ p.stLostArb ∧ p.stRepStart ≠ p.stMrSlaAck ∧ p.stRepStart ≠ p.stMrSlaNack ∧
    p.stRepStart ≠ p.stMrDataAck ∧ p.stRepStart ≠ p.stMrDataNack ∧ p.stMtSlaAck ≠ p.stMtSlaNack ∧
    p.stMtSlaAck ≠ p.stMtDataAck ∧ p.stMtSlaAck ≠ p.stMtDataNack ∧ p.stMtSlaAck ≠ p.stLostArb ∧
    p.stMtSlaAck ≠ p.stMrSlaAck ∧ p.stMtSlaAck ≠ p.stMrSlaNack ∧ p.stMtSlaAck ≠ p.stMrDataAck ∧
    p.stMtSlaAck ≠ p.stMrDataNack ∧ p.stMtSlaNack ≠ p.stMtDataAck ∧ p.stMtSlaNack ≠ p.stMtDataNack ∧
    p.stMtSlaNack ≠ p.stLostArb ∧ p.stMtSlaNack ≠ p.stMrSlaAck ∧ p.stMtSlaNack ≠ p.stMrSlaNack ∧
    p.stMtSlaNack ≠ p.stMrDataAck ∧ p.stMtSlaNack ≠ p.stMrDataNack ∧ p.stMtDataAck ≠ p.stMtDataNack ∧
    p.stMtDataAck ≠ p.stLostArb ∧ p.stMtDataAck ≠ p.stMrSlaAck ∧ p.stMtDataAck ≠ p.stMrSlaNack ∧
    p.stMtDataAck ≠ p.stMrDataAck ∧ p.stMtDataAck ≠ p.stMrDataNack ∧ p.stMtDataNack ≠ p.stLostArb ∧
    p.stMtDataNack ≠ p.stMrSlaAck ∧ p.stMtDataNack ≠ p.stMrSlaNack ∧ p.stMtDataNack ≠ p.stMrDataAck ∧
    p.stMtDataNack ≠ p.stMrDataNack ∧ p.stLostArb ≠ p.stMrSlaAck ∧ p.stLostArb ≠ p.stMrSlaNack ∧
    p.stLostArb ≠ p.stMrDataAck ∧ p.stLostArb ≠ p.stMrDataNack ∧ p.stMrSlaAck ≠ p.stMrSlaNack ∧
    p.stMrSlaAck ≠ p.stMrDataAck ∧ p.stMrSlaAck ≠ p.stMrDataNack ∧ p.stMrSlaNack ≠ p.stMrDataAck ∧
    p.stMrSlaNack ≠ p.stMrDataNack ∧ p.stMrDataAck ≠ p.stMrDataNack := by
  have hn := h.2.2.1
  simp only [Params.named, List.nodup_cons, List.mem_cons, not_or, List.not_mem_nil, not_false_eq_true, and_true,
    List.nodup_nil] at hn
  obtain
    ⟨⟨a0_1, a0_2, a0_3, a0_4, a0_5, a0_6, a0_7, a0_8, a0_9, a0_10⟩, ⟨a1_2, a1_3, a1_4, a1_5, a1_6, a1_7, a1_8, a1_9,
    a1_10⟩, ⟨a2_3, a2_4, a2_5, a2_6, a2_7, a2_8, a2_9, a2_10⟩, ⟨a3_4, a3_5, a3_6, a3_7, a3_8, a3_9, a3_10⟩, ⟨a4_5,
    a4_6, a4_7, a4_8, a4_9, a4_10⟩, ⟨a5_6, a5_7, a5_8, a5_9, a5_10⟩, ⟨a6_7, a6_8, a6_9, a6_10⟩, ⟨a7_8, a7_9,
    a7_10⟩, ⟨a8_9, a8_10⟩, a9_10⟩ := hn
  exact
    ⟨a0_1, a0_2, a0_3, a0_4, a0_5, a0_6, a0_7, a0_8, a0_9, a0_10, a1_2, a1_3, a1_4, a1_5, a1_6, a1_7, a1_8, a1_9,
    a1_10, a2_3, a2_4, a2_5, a2_6, a2_7, a2_8, a2_9, a2_10, a3_4, a3_5, a3_6, a3_7, a3_8, a3_9, a3_10, a4_5, a4_6,
    a4_7, a4_8, a4_9, a4_10, a5_6, a5_7, a5_8, a5_9, a5_10, a6_7, a6_8, a6_9, a6_10, a7_8, a7_9, a7_10, a8_9,
    a8_10, a9_10⟩

/-- The effect of each named status on `HELD` (R200). -/
theorem heldAfter_named (p : Params) (h : p.Ok) (b : Bool) :
    heldAfter p p.stStart b = true ∧ heldAfter p p.stRepStart b = true ∧ heldAfter p p.stMtSlaAck b = b ∧
    heldAfter p p.stMtSlaNack b = b ∧ heldAfter p p.stMtDataAck b = b ∧ heldAfter p p.stMtDataNack b = b ∧
    heldAfter p p.stLostArb b = false ∧ heldAfter p p.stMrSlaAck b = b ∧ heldAfter p p.stMrSlaNack b = b ∧
    heldAfter p p.stMrDataAck b = b ∧ heldAfter p p.stMrDataNack b = b := by
  obtain
    ⟨a0_1, a0_2, a0_3, a0_4, a0_5, a0_6, a0_7, a0_8, a0_9, a0_10, a1_2, a1_3, a1_4, a1_5, a1_6, a1_7, a1_8, a1_9,
    a1_10, a2_3, a2_4, a2_5, a2_6, a2_7, a2_8, a2_9, a2_10, a3_4, a3_5, a3_6, a3_7, a3_8, a3_9, a3_10, a4_5, a4_6,
    a4_7, a4_8, a4_9, a4_10, a5_6, a5_7, a5_8, a5_9, a5_10, a6_7, a6_8, a6_9, a6_10, a7_8, a7_9, a7_10, a8_9,
    a8_10, a9_10⟩ := named_ne p h
  refine ⟨?_, ?_, ?_, ?_, ?_, ?_, ?_, ?_, ?_, ?_, ?_⟩
  · simp [heldAfter]
  · simp [heldAfter]
  · simp [heldAfter, Ne.symm a0_2, Ne.symm a1_2, a2_6]
  · simp [heldAfter, Ne.symm a0_3, Ne.symm a1_3, a3_6]
  · simp [heldAfter, Ne.symm a0_4, Ne.symm a1_4, a4_6]
  · simp [heldAfter, Ne.symm a0_5, Ne.symm a1_5, a5_6]
  · simp [heldAfter, Ne.symm a0_6, Ne.symm a1_6]
  · simp [heldAfter, Ne.symm a0_7, Ne.symm a1_7, Ne.symm a6_7]
  · simp [heldAfter, Ne.symm a0_8, Ne.symm a1_8, Ne.symm a6_8]
  · simp [heldAfter, Ne.symm a0_9, Ne.symm a1_9, Ne.symm a6_9]
  · simp [heldAfter, Ne.symm a0_10, Ne.symm a1_10, Ne.symm a6_10]

/-- The effect of each named status on `MODE` (R200). -/
theorem modeAfter_named (p : Params) (h : p.Ok) (m : XMode) :
    modeAfter p p.stStart m = .noMode ∧ modeAfter p p.stRepStart m = .noMode ∧ modeAfter p p.stMtSlaAck m = .mt ∧
    modeAfter p p.stMtSlaNack m = .mt ∧ modeAfter p p.stMtDataAck m = m ∧ modeAfter p p.stMtDataNack m = m ∧
    modeAfter p p.stLostArb m = .noMode ∧ modeAfter p p.stMrSlaAck m = .mr ∧ modeAfter p p.stMrSlaNack m = .mr ∧
    modeAfter p p.stMrDataAck m = m ∧ modeAfter p p.stMrDataNack m = m := by
  obtain
    ⟨a0_1, a0_2, a0_3, a0_4, a0_5, a0_6, a0_7, a0_8, a0_9, a0_10, a1_2, a1_3, a1_4, a1_5, a1_6, a1_7, a1_8, a1_9,
    a1_10, a2_3, a2_4, a2_5, a2_6, a2_7, a2_8, a2_9, a2_10, a3_4, a3_5, a3_6, a3_7, a3_8, a3_9, a3_10, a4_5, a4_6,
    a4_7, a4_8, a4_9, a4_10, a5_6, a5_7, a5_8, a5_9, a5_10, a6_7, a6_8, a6_9, a6_10, a7_8, a7_9, a7_10, a8_9,
    a8_10, a9_10⟩ := named_ne p h
  refine ⟨?_, ?_, ?_, ?_, ?_, ?_, ?_, ?_, ?_, ?_, ?_⟩
  · simp [modeAfter]
  · simp [modeAfter]
  · simp [modeAfter, Ne.symm a0_2, Ne.symm a1_2]
  · simp [modeAfter, Ne.symm a0_3, Ne.symm a1_3]
  · simp [modeAfter, Ne.symm a0_4, Ne.symm a1_4, Ne.symm a2_4, Ne.symm a3_4, a4_7, a4_8, a4_6]
  · simp [modeAfter, Ne.symm a0_5, Ne.symm a1_5, Ne.symm a2_5, Ne.symm a3_5, a5_7, a5_8, a5_6]
  · simp [modeAfter, Ne.symm a0_6, Ne.symm a1_6, Ne.symm a2_6, Ne.symm a3_6, a6_7, a6_8]
  · simp [modeAfter, Ne.symm a0_7, Ne.symm a1_7, Ne.symm a2_7, Ne.symm a3_7]
  · simp [modeAfter, Ne.symm a0_8, Ne.symm a1_8, Ne.symm a2_8, Ne.symm a3_8]
  · simp [modeAfter, Ne.symm a0_9, Ne.symm a1_9, Ne.symm a2_9, Ne.symm a3_9, Ne.symm a7_9, Ne.symm a8_9, Ne.symm a6_9]
  · simp [modeAfter, Ne.symm a0_10, Ne.symm a1_10, Ne.symm a2_10, Ne.symm a3_10, Ne.symm a7_10, Ne.symm a8_10,
      Ne.symm a6_10]

end Sys2Proof.Machine
end

