-- ==== Sys2Proof/Tests/Slice0.lean ====
section
/-! SUPPORT. Tests on fixed values, each from a named vector of 95_test_vectors.md or an encoding of 30_encoding.md, and,
for every obligation with hypotheses, concrete states that meet them. -/
namespace Sys2Proof.Tests
open Sys2Proof.Machine

/-- The reset state with some turns to come. -/
def given (ts : List Turn) : State := { State.reset with script := ts }

/-- `TIMEOUT = 000A`, `NOW = 1000`: the start state of T1 and of the `never` vectors. -/
def timed (ts : List Turn) : State := { given ts with timeout := 10, now := 1000 }

/-- The bus held in a mode, the last action complete (V41 to V46). -/
def onBus (m : XMode) (ts : List Turn) : State := { given ts with ctrl := 0b10001, held := true, mode := m }

/-- A `START` that polls its pending start, a sound state. -/
def polling : State :=
  { State.reset with
    opc := 0x10, busy := true, ctrl := 0b00101, pend := .startAct,
    seq := { tstep := .start, mph := .poll, idx := 0, nstop := false, seg := .payload } }

/-- The ReceiveBuffer of V103: three bytes, none consumed. -/
def buffered : State :=
  { State.reset with rxbuf := Memory.writeList [] 0 [0x10, 0x20, 0x30], avail := 3, total := 3 }

/-- A next state with a property. -/
def ends (o : Host.Outcome State Fault Refusal) (p : State → Bool) : Bool :=
  match o with
  | .next s => p s
  | .fault _ => false
  | .refused _ => false

/-- The writes of `CTRL` in a trace. -/
def ctrlWrites (l : List Ev) : List Ctrl :=
  l.filterMap fun e =>
    match e with
    | .ctrl w => some w
    | .data _ => none
    | .done _ _ => none
    | .sto => none
    | .rx _ => none
    | .rsp _ => none

/-! ### Well-formedness -/

theorem test_wf_write8_refuses_256_bytes : (Instr.write8 0x50 0x05 (List.replicate 256 0)).wf = false := by
  simp only [Instr.wf, List.length_replicate]; decide
theorem test_wf_write16_refuses_256_bytes : (Instr.write16 0x50 0x1234 (List.replicate 256 0)).wf = false := by
  simp only [Instr.wf, List.length_replicate]; decide
theorem test_wf_write8_takes_255_bytes : (Instr.write8 0x50 0x05 (List.replicate 255 0)).wf = true := by
  simp only [Instr.wf, List.length_replicate]; decide
theorem test_wf_write16_takes_255_bytes : (Instr.write16 0x50 0x1234 (List.replicate 255 0)).wf = true := by
  simp only [Instr.wf, List.length_replicate]; decide

/-! ### Decoding: the words of V1 to V22 -/

theorem test_decode_start : decodePacket [0x10] = .ok .start [] ∧ decodePacket [0x11] = .ok .startR [] := by decide
theorem test_decode_saddr :
    decodePacket [0x20, 0x50] = .ok (.saddrW 0x50) [] ∧ decodePacket [0x21, 0x7F] = .ok (.saddrR 0x7F) [] := by decide
theorem test_decode_sbyte : decodePacket [0x30, 0xFF] = .ok (.sbyte 0xFF) [] := by decide
theorem test_decode_rbyte : decodePacket [0x40] = .ok .rbyteN [] ∧ decodePacket [0x41] = .ok .rbyteA [] := by decide
theorem test_decode_stop_getd : decodePacket [0x50] = .ok .stop [] ∧ decodePacket [0x60] = .ok .getd [] := by decide
theorem test_decode_write8 :
    decodePacket [0x80, 0x50, 0x05, 0x03, 0x10, 0x20, 0x30] = .ok (.write8 0x50 0x05 [0x10, 0x20, 0x30]) [] := by decide
theorem test_decode_write16 :
    decodePacket [0x81, 0x50, 0x12, 0x34, 0x02, 0xBE, 0xEF] = .ok (.write16 0x50 0x1234 [0xBE, 0xEF]) [] := by decide
theorem test_decode_read :
    decodePacket [0x90, 0x48, 0x02] = .ok (.read 0x48 2) [] ∧
      decodePacket [0x92, 0x48, 0x02] = .ok (.readX 0x48 2) [] := by decide
theorem test_decode_rread8 :
    decodePacket [0xA0, 0x50, 0x05, 0x03] = .ok (.rread8 0x50 0x05 3) [] ∧
      decodePacket [0xA2, 0x50, 0x05, 0x03] = .ok (.rread8X 0x50 0x05 3) [] := by decide
theorem test_decode_rread16 :
    decodePacket [0xA1, 0x50, 0x12, 0x34, 0x03] = .ok (.rread16 0x50 0x1234 3) [] ∧
      decodePacket [0xA3, 0x50, 0x12, 0x34, 0x03] = .ok (.rread16X 0x50 0x1234 3) [] := by decide
theorem test_decode_setto :
    decodePacket [0xC0, 0x00, 0x64] = .ok (.setto 100) [] ∧
      decodePacket [0xC0, 0xFF, 0xFF] = .ok (.setto 65535) [] := by decide
theorem test_decode_avail_recv : decodePacket [0xD0] = .ok .avail [] ∧ decodePacket [0xE0] = .ok .recv [] := by decide

/-- R97's patterns, bit by bit {CF,STO,STA,EA,EN}. -/
theorem test_decode_ctrl :
    decodeCtrl false 0b10101 = some .armStart ∧ decodeCtrl false 0b10001 = some .armSend ∧
      decodeCtrl true 0b10011 = some .armRecvAck ∧ decodeCtrl true 0b10001 = some .armRecvNack ∧
      decodeCtrl false 0b11001 = some .armStop ∧ decodeCtrl false 0b00000 = some .ctrlDisable ∧
      decodeCtrl false 0b00011 = some .ctrlIdle ∧ decodeCtrl false 0b11101 = none := by decide

/-- V18: reserved first bytes. -/
theorem test_decode_reserved :
    ∀ b ∈ ([0x00, 0x12, 0x31, 0x42, 0x51, 0x61, 0x70, 0x82, 0x91, 0x93, 0xA4, 0xB0, 0xC1, 0xD1, 0xE1, 0xF0, 0xFF] :
        List Byte), decodePacket [b] = .reject (.reservedOpcode b) := by decide

/-- V19, V20: bit 7 of an address operand; V21: one byte short. -/
theorem test_decode_reserved_operand :
    decodePacket [0x20, 0xD0] = .reject (.reservedOperandBit 0xD0) ∧
      decodePacket [0x80, 0xD0, 0x05, 0x00] = .reject (.reservedOperandBit 0xD0) ∧
      decodePacket [0x90, 0xC8, 0x02] = .reject (.reservedOperandBit 0xC8) ∧
      decodePacket [0xA0, 0x80, 0x05, 0x01] = .reject (.reservedOperandBit 0x80) ∧
      decodePacket [0x80, 0x50, 0x05, 0x03, 0x10, 0x20] = .wait := by decide

/-- The opcode table's words: a packet's first byte in 8 bits, a control-register value in 5. -/
theorem test_table_words :
    decodeTableWord 8 0x11 = some .startR ∧ decodeTableWord 8 0xA3 = some (.rread16X 0 0 0) ∧
      decodeTableWord 16 0x5020 = some (.saddrW 0x50) ∧ decodeTableWord 5 0x15 = some .armStart ∧
      decodeTableWord 5 0x11 = some .armSend ∧ decodeTableWord 5 0x19 = some .armStop ∧
      decodeTableWord 8 0x00 = some .ctrlDisable ∧ decodeTableWord 8 0x07 = none := by decide

/-! ### One step of each instruction -/

/-- V40. -/
theorem test_start : ends (exec .start (given (shortTurns (.done 0x08 0 false) ++ engineTurns 1))) (fun t =>
    t.rspq == [0x00] && t.ctrl == 0b10101 && t.held && t.ev == [.ctrl 0b10101, .done 0x08 none, .rsp 0x00]) = true := by
  decide
/-- V40p, T7: lost arbitration. -/
theorem test_start_lost_arbitration :
    ends (exec .start (given (shortTurns (.done 0x38 0 false) ++ engineTurns 3))) (fun t =>
      t.rspq == [0x38] && t.rc == 0x38 && t.ctrl == 0b00011 && !t.held &&
        t.ev == [.ctrl 0b10101, .done 0x38 none, .ctrl 0, .ctrl 0b00011, .rsp 0x38]) = true := by decide
/-- V40o: a start status satisfies a repeated start. -/
theorem test_startR : ends (exec .startR (given (shortTurns (.done 0x08 0 false) ++ engineTurns 1))) (fun t =>
    t.rspq == [0x00] && t.ctrl == 0b10101) = true := by decide
/-- V40u: the step code of a repeated start is 4. -/
theorem test_startR_timeout : ends (exec .startR (timed (engineTurns 2 ++ ticks 10 ++ engineTurns 4))) (fun t =>
    t.rspq == [0x04] && t.ctrl == 0b00011 && t.now == 1010) = true := by decide
/-- V41. -/
theorem test_saddrW : ends (exec (.saddrW 0x50) (onBus .noMode (sendTurns (.done 0x18 0 false) ++ engineTurns 1)))
    (fun t => t.rspq == [0x00] && t.ctrl == 0b10001 && t.data == 0xA0 && t.mode == .mt) = true := by decide
/-- V41a: a refused address, then a stop. -/
theorem test_saddrW_refused :
    ends (exec (.saddrW 0x50) (onBus .noMode (sendTurns (.done 0x20 0 false) ++ stopTurns .sto ++ engineTurns 2)))
      (fun t => t.rspq == [0x20] && t.ctrl == 0b00001 && !t.held &&
        t.ev == [.data 0xA0, .ctrl 0b10001, .done 0x20 none, .ctrl 0b11001, .sto, .rsp 0x20]) = true := by decide
/-- V42. -/
theorem test_saddrR : ends (exec (.saddrR 0x50) (onBus .noMode (sendTurns (.done 0x40 0 false) ++ engineTurns 1)))
    (fun t => t.rspq == [0x00] && t.ctrl == 0b10001 && t.data == 0xA1 && t.mode == .mr) = true := by decide
/-- V42b: the acknowledge of the wrong direction is a bus fault. -/
theorem test_saddrR_wrong_direction :
    ends (exec (.saddrR 0x50) (onBus .noMode (sendTurns (.done 0x18 0 false) ++ engineTurns 3)))
      (fun t => t.rspq == [0x18] && t.ctrl == 0b00011) = true := by decide
/-- V43. -/
theorem test_sbyte : ends (exec (.sbyte 0x05) (onBus .mt (sendTurns (.done 0x28 0 false) ++ engineTurns 1)))
    (fun t => t.rspq == [0x00] && t.ctrl == 0b10001 && t.data == 0x05 && t.held) = true := by decide
/-- V43a. -/
theorem test_sbyte_refused :
    ends (exec (.sbyte 0x05) (onBus .mt (sendTurns (.done 0x30 0 false) ++ stopTurns .sto ++ engineTurns 2)))
      (fun t => t.rspq == [0x30] && t.ctrl == 0b00001) = true := by decide
/-- V45. -/
theorem test_rbyteN : ends (exec .rbyteN (onBus .mr (shortTurns (.done 0x58 0xCD false) ++ engineTurns 1)))
    (fun t => t.rspq == [0x00] && t.ctrl == 0b10001 && t.data == 0xCD) = true := by decide
/-- V45a: the acknowledge mode does not match. -/
theorem test_rbyteN_mismatch : ends (exec .rbyteN (onBus .mr (shortTurns (.done 0x50 0xCD false) ++ engineTurns 3)))
    (fun t => t.rspq == [0x50] && t.ctrl == 0b00011) = true := by decide
/-- V44. -/
theorem test_rbyteA : ends (exec .rbyteA (onBus .mr (shortTurns (.done 0x50 0xAB false) ++ engineTurns 1)))
    (fun t => t.rspq == [0x00] && t.ctrl == 0b10011 && t.data == 0xAB &&
      t.ev == [.ctrl 0b10011, .done 0x50 (some 0xAB), .rsp 0x00]) = true := by decide
/-- V44a. -/
theorem test_rbyteA_mismatch : ends (exec .rbyteA (onBus .mr (shortTurns (.done 0x58 0xAB false) ++ engineTurns 3)))
    (fun t => t.rspq == [0x58] && t.ctrl == 0b00011 && t.data == 0xAB) = true := by decide
/-- V46. -/
theorem test_stop : ends (exec .stop (onBus .mt (stopTurns .sto ++ engineTurns 1)))
    (fun t => t.rspq == [0x00] && t.ctrl == 0b00001 && !t.held && t.pend == .noAct) = true := by decide
/-- V46b: no timeout, no completion: the command still runs. -/
theorem test_stop_hangs : ends (exec .stop (given (engineTurns 20)))
    (fun t => t.busy && t.ctrl == 0b01001 && t.rspq == []) = true := by decide
/-- V111. -/
theorem test_getd : ends (exec .getd { State.reset with data := 0xAB }) (fun t =>
    t.rspq == [0xAB] && t.data == 0xAB && !t.busy) = true := by decide
/-- V9 on the nominal bus: no payload. -/
theorem test_write8 :
    ends (exec (.write8 0x50 0x05 []) (given (nominalStart ++ sendLoop 2 ++ nominalStop))) (fun t =>
      t.rspq == [0x00] && t.ctrl == 0b00001 &&
        ctrlWrites t.ev == [0b10101, 0b10001, 0b10001, 0b11001]) = true := by decide
/-- V9: the selector byte that is sent, whatever `SEL[15:8]` is. -/
theorem test_selector_byte (s : State) : dataOperand .byte (beginStep .dataSend .selLo 0 (latchSel8 0x05 s)) = some 0x05 :=
  congrArg some (loByte_append _ _)
/-- P2, command 2: nobody answers at 29. -/
theorem test_write8_refused :
    ends (exec (.write8 0x29 0x00 []) (given (nominalStart ++ sendTurns (.nominal false 0) ++ stopTurns .sto ++
      engineTurns 2))) (fun t => t.rspq == [0x20] && t.ctrl == 0b00001 && t.data == 0x52) = true := by decide
/-- P5, command 1, without its data bytes: the selector's high byte first. -/
theorem test_write16 :
    ends (exec (.write16 0x50 0x1234 []) (given (nominalStart ++ sendLoop 3 ++ nominalStop))) (fun t =>
      t.rspq == [0x00] && engineWrites t.ev == [.ctrl 0b10101, .data 0xA0, .ctrl 0b10001, .data 0x12, .ctrl 0b10001,
        .data 0x34, .ctrl 0b10001, .ctrl 0b11001]) = true := by decide
/-- T3: a count of 0 reads one byte. -/
theorem test_read :
    ends (exec (.read 0x48 0) (given (nominalStart ++ sendLoop 1 ++ receiveLoop [0xAB] ++ nominalStop))) (fun t =>
      t.rspq == [0x00] && t.avail == 1 && t.total == 1 && t.rxbuf.read 0 == 0xAB) = true := by decide
/-- V110: the unread bytes are lost. -/
theorem test_read_fails_at_start :
    ends (exec (.read 0x48 1) { given (shortTurns (.done 0x38 0 false) ++ engineTurns 3) with
      avail := 2, cursor := 1, total := 3 }) (fun t =>
      t.rspq == [0x38] && t.avail == 0 && t.cursor == 0 && t.total == 0) = true := by decide
/-- V109: the counts stay, the bytes go to the caller's buffer. -/
theorem test_readX :
    ends (exec (.readX 0x48 2) { given (nominalStart ++ sendLoop 1 ++ receiveLoop [0xAB, 0xCD] ++ nominalStop) with
      avail := 2, cursor := 1, total := 3 }) (fun t =>
      t.rspq == [0x00] && t.rxout == [0xAB, 0xCD] && t.avail == 2 && t.cursor == 1 && t.total == 3) = true := by decide
/-- T5 with one byte. -/
theorem test_rread8 :
    ends (exec (.rread8 0x50 0x05 1)
      (given (nominalStart ++ sendLoop 2 ++ nominalStart ++ sendLoop 1 ++ receiveLoop [0x10] ++ nominalStop))) (fun t =>
      t.rspq == [0x00] && t.avail == 1 && ctrlWrites t.ev == [0b10101, 0b10001, 0b10001, 0b10101, 0b10001, 0b10001,
        0b11001]) = true := by decide
/-- V85: a refused selector. -/
theorem test_rread8_refused_selector :
    ends (exec (.rread8 0x50 0x05 3) (given (nominalStart ++ sendLoop 1 ++ sendTurns (.nominal false 0) ++
      stopTurns .sto ++ engineTurns 2))) (fun t => t.rspq == [0x30] && t.ctrl == 0b00001) = true := by decide
/-- V14: the 16-bit selector. -/
theorem test_rread16 :
    ends (exec (.rread16 0x50 0x1234 1)
      (given (nominalStart ++ sendLoop 3 ++ nominalStart ++ sendLoop 1 ++ receiveLoop [0x10] ++ nominalStop))) (fun t =>
      t.rspq == [0x00] && t.rxbuf.read 0 == 0x10 && t.saved == 0x58) = true := by decide
/-- V13, with `X`. -/
theorem test_rread8X :
    ends (exec (.rread8X 0x50 0x05 1)
      (given (nominalStart ++ sendLoop 2 ++ nominalStart ++ sendLoop 1 ++ receiveLoop [0x10] ++ nominalStop))) (fun t =>
      t.rspq == [0x00] && t.rxout == [0x10] && t.avail == 0) = true := by decide
/-- P5, command 2, one byte. -/
theorem test_rread16X :
    ends (exec (.rread16X 0x50 0x1234 1)
      (given (nominalStart ++ sendLoop 3 ++ nominalStart ++ sendLoop 1 ++ receiveLoop [0xBE] ++ nominalStop))) (fun t =>
      t.rspq == [0x00] && t.rxout == [0xBE] && t.ctrl == 0b00001) = true := by decide
/-- V16. -/
theorem test_setto : ends (exec (.setto 0xFFFF) State.reset) (fun t => t.rspq == [0x00] && t.timeout == 0xFFFF) = true := by
  decide
/-- P1, command 4. -/
theorem test_avail : ends (exec .avail buffered) (fun t => t.rspq == [0x03] && t.avail == 3) = true := by decide
/-- V103. -/
theorem test_recv : ends (exec .recv buffered) (fun t =>
    t.rspq == [0x10] && t.avail == 2 && t.cursor == 1 && t.total == 3) = true := by decide
/-- V101. -/
theorem test_recv_empty : ends (exec .recv State.reset) (fun t =>
    t.rspq == [0x00] && t.avail == 0 && t.cursor == 0) = true := by decide
/-- V25. -/
theorem test_armStart : ends (exec .armStart State.reset) (fun t => t.ctrl == 0b00101 && t.pend == .startAct) = true := by
  decide
/-- V26. -/
theorem test_armSend : ends (exec .armSend { State.reset with ctrl := 0b10101 }) (fun t =>
    t.ctrl == 0b00001 && t.pend == .xferAct) = true := by decide
/-- V27. -/
theorem test_armRecvAck : ends (exec .armRecvAck { State.reset with ctrl := 0b10001 }) (fun t =>
    t.ctrl == 0b00011 && t.pend == .xferAct) = true := by decide
/-- R97: the same value as `ARM_SEND`. -/
theorem test_armRecvNack : ends (exec .armRecvNack { State.reset with ctrl := 0b10011 }) (fun t =>
    t.ctrl == 0b00001 && t.pend == .xferAct) = true := by decide
/-- V28. -/
theorem test_armStop : ends (exec .armStop { State.reset with ctrl := 0b10001 }) (fun t =>
    t.ctrl == 0b01001 && t.pend == .stopAct) = true := by decide
/-- V29. -/
theorem test_ctrlDisable : ends (exec .ctrlDisable { polling with held := true, mode := .mt }) (fun t =>
    t.ctrl == 0 && t.pend == .noAct && !t.held && t.mode == .noMode) = true := by decide
/-- V30, V31. -/
theorem test_ctrlIdle :
    ends (exec .ctrlIdle { State.reset with ctrl := 0 }) (fun t => t.ctrl == 0b00011) = true ∧
      ends (exec .ctrlIdle { State.reset with ctrl := 0b10001 }) (fun t => t.ctrl == 0b10011) = true := by decide

/-- V33: the launched action with no meaning on the bus. -/
theorem test_ctrl_bad_action :
    (ctrlWrite 0b11101 { State.reset with ctrl := 0b00001 }).ctrl = 0b01101 ∧
      (ctrlWrite 0b11101 { State.reset with ctrl := 0b00001 }).pend = .badAct := by decide
/-- A stop under way on the lines, the bus held and the clock low. -/
def stopping : State :=
  { onBus .mt [] with
    ctrl := 0b01001, pend := .stopAct, line := { Line.released with sclO := false, busBusy := true } }

/-- R214: the stop condition is on the lines at the fourth turn, when data rises while the clock is high. -/
theorem test_line_stop :
    ctrlSTO (lineRun (List.replicate 3 (true, true)) stopping).ctrl = true ∧
      ctrlSTO (lineRun (List.replicate 4 (true, true)) stopping).ctrl = false ∧
      (lineRun (List.replicate 4 (true, true)) stopping).line.busBusy = false := by decide
/-- R214, R206: another device pulls the clock low and data rises then: no stop condition, `STO` stays set and the bus
busy; held data that rises later with the clock high is one. -/
theorem test_line_stop_prevented :
    let t := lineRun (List.replicate 3 (true, true) ++ [(false, false), (false, true), (true, true)]) stopping
    let u := lineRun (List.replicate 3 (true, true) ++ [(true, false), (true, false), (true, true)]) stopping
    ctrlSTO t.ctrl = true ∧ t.line.busBusy = true ∧ ctrlSTO u.ctrl = false ∧ u.line.busBusy = false := by decide
/-- R206, R199: a stop armed with the bus not held puts no stop condition on another master's bus. -/
theorem test_stop_not_held_keeps_tracker :
    (busStop { stopping with held := false }).line.busBusy = true ∧ (busStop stopping).line.busBusy = false := by decide

/-- V35 to V39. -/
theorem test_address_byte :
    addressByte 0x50 false = 0xA0 ∧ addressByte 0x50 true = 0xA1 ∧ addressByte 0x7F true = 0xFF ∧
      addressByte 0x29 false = 0x52 ∧ addressByte 0x48 true = 0x91 := by decide
/-- V40a, V40c, V40e, V40f, V40i, V40j: completion first, `>=`, across the wrap. -/
theorem test_poll_iteration :
    pollIteration true 10 1000 0 = .completed ∧ pollIteration false 10 0x6E 0x64 = .timedOut ∧
      pollIteration false 10 4 0xFFFFFFFB = .continue ∧ pollIteration false 10 5 0xFFFFFFFB = .timedOut ∧
      pollIteration false 0xFFFF 0xFFFE 0 = .continue ∧ pollIteration false 0xFFFF 0xFFFF 0 = .timedOut := by decide
/-- V60 to V71. -/
theorem test_effective_count :
    effectiveCount 0 false 32 = 1 ∧ effectiveCount 33 false 32 = 32 ∧ effectiveCount 33 true 32 = 33 ∧
      effectiveCount 255 true 32 = 255 ∧ effectiveCount 5 false 1 = 1 ∧ effectiveCount 255 false 255 = 255 := by decide
/-- P5: the wide write of 0xBEEF. -/
theorem test_wide_write : write16Wide 2 0x50 0x1234 0xBEEF = .write16 0x50 0x1234 [0xBE, 0xEF] := by decide

/-- An opcode-table word runs as the first instruction: a packet, and a control-register write. -/
theorem test_fetch_word :
    ends (step (State.reset.withFetchWord 8 0xD0)) (fun t => t.rspq == [0x00] && t.opc == 0xD0) = true ∧
      ends (step (State.reset.withFetchWord 5 0x19)) (fun t => t.ctrl == 0b01001 && t.pend == .stopAct) = true := by
  decide

/-! ### Witnesses: for each obligation with hypotheses, states and operands that meet all of them. -/

/-- DecodeOfEncodeIsTheInstruction, at both ends of the payload's length. -/
theorem witness_decodeOfEncode :
    (Instr.write8 0x7F 0xFF []).wf = true ∧ (Instr.write16 0 0 (List.replicate 255 0xFF)).wf = true := by
  simp only [Instr.wf, List.length_replicate, List.length_nil]; decide

/-- StepRunsTheDecodedInstruction, both clauses. -/
theorem witness_stepRuns :
    let s : State := { State.reset with cmdq := [0x10, 0x20] }
    s.busy = false ∧ s.cmderr = false ∧ decodePacket s.cmdq = .ok .start [0x20] ∧ s.script = [] ∧
      { s with script := [.engine, .env .tick] }.script = .engine :: [.env .tick] := by decide

/-- EngineExecutesTheControlWrites, each clause. -/
theorem witness_engineWrites :
    ∀ m ∈ [Mph.arm, .lock0, .lock1],
      let s : State := { polling with seq := { polling.seq with mph := m }, script := [.engine] }
      s.busy = true ∧ currentPrim s = some .start ∧ s.script = .engine :: [] ∧ s.seq.mph = m := by decide

/-- The two ways the engine comes to move: the script has ended, or gives it the turn. -/
theorem witness_engineMoves : EngineMoves (given []) ∧ EngineMoves (given [.engine, .env .tick]) := by decide

/-- IllegalCommandSetsOnlyTheErrorFlag: a reserved first byte, an address with bit 7 set, an incomplete packet, each with
an empty script and with the engine's turn at its front. -/
theorem witness_illegal :
    ∀ ts ∈ [[], [Turn.engine, .env .tick]],
      (given ts).busy = false ∧ (given ts).cmderr = false ∧ EngineMoves (given ts) ∧
        decodePacket { given ts with cmdq := [0xFF] }.cmdq = .reject (.reservedOpcode 0xFF) ∧
        decodePacket { given ts with cmdq := [0x20, 0x80] }.cmdq = .reject (.reservedOperandBit 0x80) ∧
        decodePacket { given ts with cmdq := [0xC0, 0x00] }.cmdq = .wait := by decide

/-- ReservedBytesAreRejected: a byte no row selects, an address byte with bit 7 set, a payload of length 0. -/
theorem witness_reserved :
    (familyRows.any fun row => familySelects row 0x00) = false ∧
      (familyRows.any fun row => familySelects row 0xFF) = false ∧ (0x80 : Byte).getLsbD 7 = true ∧
      (0xFF : Byte).getLsbD 7 = true ∧ (0 : Byte).toNat ≤ ([] : List Byte).length := by decide

/-- CommandErrorIsStickyUntilReset: both clauses, the engine's turn given by the script. -/
theorem witness_commandError :
    let s : State := { given [.engine, .env .tick] with cmderr := true, cmdq := [0x10] }
    s.cmderr = true ∧ (∃ t, step s = .next t) ∧ s.script.head? ≠ some (.env .rst) ∧ s.busy = false ∧ EngineMoves s :=
  ⟨rfl, ⟨_, rfl⟩, by decide, rfl, by decide⟩

/-- BusyEngineTakesNoCommandByte. -/
theorem witness_busyEngine :
    let s : State := { polling with cmdq := [0x50] }
    s.busy = true ∧ EngineMoves s ∧ ∃ t, step s = .next t := ⟨rfl, by decide, _, rfl⟩

/-- CommandIsRefusedWhileBusyOrInError: both clauses. -/
theorem witness_refused :
    (Instr.recv).isCommand = true ∧ polling.busy = true ∧ { State.reset with cmderr := true }.busy = false ∧
      { State.reset with cmderr := true }.cmderr = true := by decide

/-- EveryStepKeepsTheStateSound, SoundStateNeverStops: the reset state, and a state inside a command. -/
theorem witness_sound : Sound State.reset ∧ ∃ t, step State.reset = .next t :=
  ⟨by constructor <;> decide, _, rfl⟩
theorem witness_sound_polling :
    Sound { polling with script := [.env (.done 0x08 0 false)] } ∧
      ∃ t, step { polling with script := [.env (.done 0x08 0 false)] } = .next t :=
  ⟨by constructor <;> decide, _, rfl⟩

/-- EveryStepKeepsTheByteArraysCanonical, ParametersNeverChange, with cells in the arrays. -/
theorem witness_memory : MemoryOk buffered ∧ ∃ t, step buffered = .next t := ⟨by decide, _, rfl⟩

/-- OnlySettoChangesTheThreshold, OnlyBufferReadsAndRecvTouchTheReceiveBuffer, StreamsChangeOnlyAsTheRulesSay,
OnlyPayloadCommandsTouchThePayloadLatch: `STOP` under a schedule without a reset meets the premises of all four. -/
theorem witness_frames :
    let s := given (stopTurns .sto ++ engineTurns 1 ++ ticks 1)
    (∀ ms, Instr.stop ≠ .setto ms) ∧ (∀ a c, Instr.stop ≠ .read a c) ∧ (∀ a e c, Instr.stop ≠ .rread8 a e c) ∧
      (∀ a e c, Instr.stop ≠ .rread16 a e c) ∧ Instr.stop ≠ .recv ∧ (∀ a e d, Instr.stop ≠ .write8 a e d) ∧
      (∀ a e d, Instr.stop ≠ .write16 a e d) ∧ (∀ b, Instr.stop ≠ .sbyte b) ∧ (∀ a c, Instr.stop ≠ .readX a c) ∧
      (∀ a e c, Instr.stop ≠ .rread8X a e c) ∧ (∀ a e c, Instr.stop ≠ .rread16X a e c) ∧
      noResets s.script = true ∧ ∃ t, exec .stop s = .next t := by
  refine ⟨?_, ?_, ?_, ?_, ?_, ?_, ?_, ?_, ?_, ?_, ?_, by decide, _, rfl⟩ <;> intros <;> simp

/-- StreamsChangeOnlyAsTheRulesSay, the clauses on `RSPQ`: a command that still runs, one that has ended, a
control-register write. -/
theorem witness_responses :
    (Instr.stop).isCommand = true ∧ (∃ t, exec .stop (given (engineTurns 1)) = .next t ∧ t.busy = true) ∧
      (∃ t, exec .stop (given (stopTurns .sto ++ engineTurns 1)) = .next t ∧ t.busy = false) ∧
      (Instr.armStop).isCommand = false ∧ ∃ t, exec .armStop (given []) = .next t :=
  ⟨rfl, ⟨_, rfl, rfl⟩, ⟨_, rfl, rfl⟩, rfl, _, rfl⟩

/-- ControllerIsIdleAfterATransactionOrStop: a `STOP`, and a `READ` that lost the bus. -/
theorem witness_idle_stop :
    Sound (given (stopTurns .sto ++ engineTurns 1)) ∧
      ∃ t, exec .stop (given (stopTurns .sto ++ engineTurns 1)) = .next t ∧ t.busy = false :=
  ⟨by constructor <;> decide, _, rfl, rfl⟩
theorem witness_idle_read :
    Sound (given (shortTurns (.done 0x38 0 false) ++ engineTurns 3)) ∧ isTransaction (.read 0x48 1) = true ∧
      ∃ t, exec (.read 0x48 1) (given (shortTurns (.done 0x38 0 false) ++ engineTurns 3)) = .next t ∧ t.busy = false :=
  ⟨by constructor <;> decide, rfl, _, rfl, rfl⟩

/-- StartEndsInOneOfItsOutcomes: `START` that succeeds, `START.R` that times out. -/
theorem witness_startEnds :
    Sound (given (shortTurns (.done 0x08 0 false) ++ engineTurns 1)) ∧
      noResets (given (shortTurns (.done 0x08 0 false) ++ engineTurns 1)).script = true ∧
      ∃ t, exec .start (given (shortTurns (.done 0x08 0 false) ++ engineTurns 1)) = .next t ∧ t.busy = false :=
  ⟨by constructor <;> decide, by decide, _, rfl, rfl⟩
theorem witness_startREnds :
    Sound (timed (engineTurns 2 ++ ticks 10 ++ engineTurns 4)) ∧
      noResets (timed (engineTurns 2 ++ ticks 10 ++ engineTurns 4)).script = true ∧
      ∃ t, exec .startR (timed (engineTurns 2 ++ ticks 10 ++ engineTurns 4)) = .next t ∧ t.busy = false :=
  ⟨by constructor <;> decide, by decide, _, rfl, rfl⟩

/-- ControlWriteFollowsItsBits: a disable, an arm, a write that is neither. -/
theorem witness_controlWrite :
    (0b11110 : Ctrl).getLsbD 0 = false ∧ (0b11101 : Ctrl).getLsbD 0 = true ∧ (0b11101 : Ctrl).getLsbD 4 = true ∧
      (0b00011 : Ctrl).getLsbD 0 = true ∧ (0b00011 : Ctrl).getLsbD 4 = false := by decide

/-- LockupRestoresTheIdleState. -/
theorem witness_lockup : ∃ u t, exec .ctrlDisable polling = .next u ∧ exec .ctrlIdle u = .next t := ⟨_, _, rfl, rfl⟩

/-- CompletionFollowsTheContract: every kind of pending action, and a status for every row of R200's table. -/
theorem witness_completion :
    let c := Params.default
    c.Ok ∧ (∀ a ∈ [Action.startAct, .xferAct, .badAct],
        { polling with pend := a }.pend = a ∧ ctrlEN { polling with pend := a }.ctrl = true) ∧
      (0x08 : Byte) = c.stStart ∧ (0x20 : Byte) = c.stMtSlaNack ∧ (0x48 : Byte) = c.stMrSlaNack ∧
      (0x38 : Byte) = c.stLostArb ∧ (0x58 : Byte) ∉ [c.stStart, c.stRepStart, c.stMtSlaAck, c.stMtSlaNack,
        c.stMrSlaAck, c.stMrSlaNack, c.stLostArb] := by decide

/-- StopCompletionReleasesTheBus. -/
theorem witness_stopCompletion :
    let s : State := { polling with ctrl := 0b01001, pend := .stopAct }
    ctrlEN s.ctrl = true ∧ s.pend = .stopAct := by decide

/-- BusSideIsStableWithNothingPending (both ways to be stable), BusSideNeverOversteps: a receiving transfer that takes a
byte, and a transfer of no direction whose turn says that it does. -/
theorem witness_busSide :
    let s : State := { onBus .mr [] with ctrl := 0b00011, pend := .xferAct }
    EnvEvent.isBus (.done 0x08 0 true) = true ∧ EnvEvent.isBus (.line true false) = true ∧
      State.reset.pend = .noAct ∧ ctrlEN { polling with ctrl := 0 }.ctrl = false ∧
      xferDir s.held s.mode = .receive ∧ (envStep (.done 0x50 0xAB false) s).data ≠ s.data ∧
      xferDir false .noMode = .undefined ∧
      (envStep (.done 0x50 0xAB true) { s with held := false, mode := .noMode }).data ≠ s.data := by decide

/-- ArbitrationIsLostOnASampledZero. -/
theorem witness_arbitration :
    let s : State :=
      { polling with
        ctrl := 0b00001, pend := .xferAct, held := true, data := 0xA0
        line := { Line.released with phase := .bitHigh, shift := 0xA0, bitn := 7 } }
    s.cfg.Ok ∧ ctrlEN s.ctrl = true ∧ s.pend = .xferAct ∧ s.held = true ∧ xferDir s.held s.mode = .send ∧
      s.line.phase = .bitHigh ∧ s.line.bitn < 8 ∧ s.line.shift.getLsbD 7 = true ∧ s.line.sclO = true ∧
      (s.line.sdaO && false) = false := by decide

/-- AddressByteIsSentAndAcknowledged. -/
theorem witness_addressByte :
    let s : State :=
      { polling with
        ctrl := 0b00001, pend := .xferAct, held := true, data := 0xA1
        line := { Line.released with sclO := false } }
    s.cfg.Ok ∧ ctrlEN s.ctrl = true ∧ s.pend = .xferAct ∧ s.held = true ∧ s.mode = .noMode ∧ s.line.phase = .idle ∧
      s.line.sclO = false := by decide

/-- ClockAndHostTurnsChangeOneElement, ResetGivesTheStatedValues: a state with each turn at the front. -/
theorem witness_turns :
    (∀ e ∈ [EnvEvent.tick, .send 0x10, .takeRsp, .takeRx, .rst], (given [.env e]).script = .env e :: []) ∧
      ∃ t, step (given [.env .rst]) = .next t := ⟨by decide, _, rfl⟩

/-- PollIterationFollowsItsOrder: a completed start and stop, the threshold reached exactly, one short of it, and
disabled. -/
theorem witness_poll :
    let s : State := { polling with timeout := 10, t0 := 0xFFFFFFFB, now := 5 }
    s.busy = true ∧ EngineMoves s ∧ currentPrim s = some .start ∧ s.seq.mph = .poll ∧
      pollDone .start s.ctrl = false ∧ s.timeout ≠ 0 ∧ s.timeout.toNat ≤ (s.now - s.t0).toNat ∧
      ({ s with now := 4 }.now - s.t0).toNat < s.timeout.toNat ∧ { s with timeout := 0 }.timeout = 0 ∧
      pollDone .start 0b10101 = true ∧ pollDone .stop 0b00001 = true ∧
      currentPrim { s with seq := { s.seq with tstep := .stop } } = some .stop := by decide

/-- DisabledTimeoutHangsForEver. -/
theorem witness_hang :
    let s : State := { polling with script := [.engine, .env .tick, .engine] }
    s.busy = true ∧ currentPrim s = some .start ∧ s.seq.mph = .poll ∧ s.timeout = 0 ∧
      pollDone .start s.ctrl = false ∧ ∀ t ∈ s.script, t = .engine ∨ t = .env .tick := by decide

/-- StatusIsClassifiedByThePrimitivesTable: a send's step with its acknowledge, its refusal and another status. -/
theorem witness_status :
    let s : State :=
      { polling with
        opc := 0x30, seq := { polling.seq with tstep := .dataSend, mph := .status } }
    s.cfg.Ok ∧ s.busy = true ∧ EngineMoves s ∧ currentPrim s = some .byte ∧ s.seq.mph = .status ∧ Prim.byte ≠ .stop ∧
      { s with status := 0x28 }.status = s.cfg.stMtDataAck ∧ { s with status := 0x30 }.status = s.cfg.stMtDataNack ∧
      { s with status := 0x38 }.status ∉ [s.cfg.stMtDataAck, s.cfg.stMtDataNack] := by decide

/-- StartCommandsSucceedOnAStartStatus. -/
theorem witness_startCommands :
    let s := given (shortTurns (.done 0x10 0 true) ++ engineTurns 1 ++ ticks 1)
    Ready s ∧ (0x10 : Byte) = s.cfg.stRepStart ∧
      s.script = shortTurns (.done 0x10 0 true) ++ engineTurns 1 ++ ticks 1 := by decide

/-- AddressCommandsSucceedOnTheirAck: both clauses. -/
theorem witness_addressCommands :
    ∀ st ∈ [(0x18 : Byte), 0x40],
      let s := onBus .noMode (sendTurns (.done st 0 false) ++ engineTurns 1 ++ [])
      Ready s ∧ s.cfg.Ok ∧ s.held = true ∧ s.mode = .noMode ∧ (st = s.cfg.stMtSlaAck ∨ st = s.cfg.stMrSlaAck) ∧
        s.script = sendTurns (.done st 0 false) ++ engineTurns 1 ++ [] := by decide

/-- SbyteSucceedsOnTheDataAck. -/
theorem witness_sbyte :
    let s := onBus .mt (sendTurns (.done 0x28 0 false) ++ engineTurns 1 ++ [])
    Ready s ∧ MemoryOk s ∧ s.cfg.Ok ∧ s.mode = .mt ∧ (0x28 : Byte) = s.cfg.stMtDataAck ∧
      s.script = sendTurns (.done 0x28 0 false) ++ engineTurns 1 ++ [] := by decide

/-- RbyteCommandsDeliverTheReceivedByte: both clauses. -/
theorem witness_rbyte :
    ∀ st ∈ [(0x50 : Byte), 0x58],
      let s := onBus .mr (shortTurns (.done st 0xAB false) ++ engineTurns 1 ++ [])
      Ready s ∧ s.cfg.Ok ∧ s.mode = .mr ∧ (st = s.cfg.stMrDataAck ∨ st = s.cfg.stMrDataNack) ∧
        s.script = shortTurns (.done st 0xAB false) ++ engineTurns 1 ++ [] := by decide

/-- StopCommandReleasesTheBus. -/
theorem witness_stop :
    let s := onBus .mt (stopTurns .sto ++ engineTurns 1 ++ [])
    Ready s ∧ s.script = stopTurns .sto ++ engineTurns 1 ++ [] := by decide

/-- BusFaultEndsInOneLockupReset: lost arbitration in `START`, a mode mismatch in `RBYTE.A`. -/
theorem witness_busFault :
    let s := given (primTurns .start (.done 0x38 0 false) ++ engineTurns 3 ++ [])
    let u := onBus .mr (primTurns (.recv true) (.done 0x58 0xAB false) ++ engineTurns 3 ++ [])
    Ready s ∧ MemoryOk s ∧ primitiveOf .start = some (.start, .start) ∧ Prim.start ≠ .stop ∧
      classify s.cfg .start 0x38 = .busFault ∧
      s.script = primTurns .start (.done 0x38 0 false) ++ engineTurns 3 ++ [] ∧ Ready u ∧ MemoryOk u ∧
      primitiveOf .rbyteA = some (.dataReceive, .recv true) ∧ classify u.cfg (.recv true) 0x58 = .busFault ∧
      u.script = primTurns (.recv true) (.done 0x58 0xAB false) ++ engineTurns 3 ++ [] := by decide

/-- SlaveRefusalIssuesAStop. -/
theorem witness_refusal :
    let s := onBus .noMode (sendTurns (.done 0x20 0 false) ++ stopTurns .sto ++ engineTurns 2 ++ [])
    Ready s ∧ MemoryOk s ∧ primitiveOf (.saddrW 0x50) = some (.addressWrite, .addr false) ∧
      classify s.cfg (.addr false) 0x20 = .nack ∧
      s.script = sendTurns (.done 0x20 0 false) ++ stopTurns .sto ++ engineTurns 2 ++ [] := by decide

/-- TimedOutRefusalStopIsNotReported: the threshold reached exactly. -/
theorem witness_timedOutRefusal :
    let ts := sendTurns (.done 0x20 0 false) ++ engineTurns 2 ++ ticks 10 ++ engineTurns 5 ++ []
    let s := timed ts
    Ready s ∧ MemoryOk s ∧ primitiveOf (.saddrW 0x50) = some (.addressWrite, .addr false) ∧
      classify s.cfg (.addr false) 0x20 = .nack ∧ s.timeout ≠ 0 ∧ s.timeout.toNat ≤ 10 ∧ 10 < 2 ^ 32 ∧
      s.script = ts := by decide

/-- TimeoutReturnsTheStepCode: the threshold reached exactly. -/
theorem witness_timeout :
    let s := timed (armTurns .stop ++ ticks 10 ++ engineTurns 4 ++ [])
    Ready s ∧ MemoryOk s ∧ primitiveOf .stop = some (.stop, .stop) ∧ s.timeout ≠ 0 ∧ s.timeout.toNat ≤ 10 ∧
      10 < 2 ^ 32 ∧ s.script = armTurns .stop ++ ticks 10 ++ engineTurns 4 ++ [] := by decide

/-- WriteTransactionsCompleteInOrder: both clauses, an empty payload and one byte. -/
theorem witness_write :
    let s := given (nominalStart ++ sendLoop (2 + ([] : List Byte).length) ++ nominalStop ++ [])
    let u := given (nominalStart ++ sendLoop (3 + [(0xBE : Byte)].length) ++ nominalStop ++ [])
    Ready s ∧ MemoryOk s ∧ s.cfg.Ok ∧ ([] : List Byte).length ≤ 255 ∧
      s.script = nominalStart ++ sendLoop (2 + ([] : List Byte).length) ++ nominalStop ++ [] ∧ Ready u ∧ MemoryOk u ∧
      u.cfg.Ok ∧ [(0xBE : Byte)].length ≤ 255 ∧
      u.script = nominalStart ++ sendLoop (3 + [(0xBE : Byte)].length) ++ nominalStop ++ [] := by decide

/-- ReadTransactionsDeliverTheBytes: both clauses, with a requested count of 0. -/
theorem witness_read :
    let s := given (nominalStart ++ sendLoop 1 ++ receiveLoop [0xAB] ++ nominalStop ++ [])
    Ready s ∧ MemoryOk s ∧ s.cfg.Ok ∧
      s.script = nominalStart ++ sendLoop 1 ++ receiveLoop [0xAB] ++ nominalStop ++ [] ∧
      [(0xAB : Byte)].length = effectiveCount 0 false s.cfg.rxcap ∧
      [(0xAB : Byte)].length = effectiveCount 0 true s.cfg.rxcap := by decide

/-- RegisterReadsCompleteInOrder and RegisterReadsIntoTheCallersBufferComplete: both clauses of each. -/
theorem witness_rread :
    ∀ k ∈ [2, 3],
      let s := given (nominalStart ++ sendLoop k ++ nominalStart ++ sendLoop 1 ++ receiveLoop [0xAB] ++ nominalStop ++ [])
      Ready s ∧ MemoryOk s ∧ s.cfg.Ok ∧ [(0xAB : Byte)].length = effectiveCount 1 false s.cfg.rxcap ∧
        [(0xAB : Byte)].length = effectiveCount 1 true s.cfg.rxcap ∧
        s.script = nominalStart ++ sendLoop k ++ nominalStart ++ sendLoop 1 ++ receiveLoop [0xAB] ++ nominalStop ++ [] := by
  decide

/-- TransactionStopsAtARefusedAddress: the first address of each form, the second of a register read. -/
theorem witness_refusedAddress :
    let ts := nominalStart ++ sendTurns (.nominal false 0) ++ stopTurns .sto ++ engineTurns 2 ++ []
    Ready (given ts) ∧ (given ts).cfg.Ok ∧ (given ts).script = ts ∧
      firstAddress (.write16 0x50 0x1234 [0xBE]) = some (0x50, false) ∧
      firstAddress (.readX 0x48 2) = some (0x48, true) := by decide
theorem witness_refusedSecondAddress :
    ∀ k ∈ [1 + [(0x05 : Byte)].length, 1 + [(0x12 : Byte), 0x34].length],
      let ts := nominalStart ++ sendLoop k ++ nominalStart ++ sendTurns (.nominal false 0) ++ stopTurns .sto ++
        engineTurns 2 ++ []
      Ready (given ts) ∧ (given ts).cfg.Ok ∧ (given ts).script = ts := by decide

/-- FailedReadKeepsTheBytesBeforeIt, a status: the acknowledge mode missed at the last receive of two, lost arbitration
at the first. -/
theorem witness_failedRead :
    ∀ row ∈ [(Instr.readX 0x48 2, true, [(0x10 : Byte)], (0x50 : Byte)), (.rread8 0x50 0x05 2, false, [], 0x38)],
      let ts := readTurns row.1 ++ receiveLoop row.2.2.1 ++ shortTurns (.done row.2.2.2 0 false) ++ engineTurns 3 ++ []
      let s := given ts
      Ready s ∧ MemoryOk s ∧ s.cfg.Ok ∧ readOperands row.1 = some (2, row.2.1) ∧
        row.2.2.1.length < effectiveCount 2 row.2.1 s.cfg.rxcap ∧
        row.2.2.2 ≠ (if row.2.2.1.length + 1 = effectiveCount 2 row.2.1 s.cfg.rxcap then s.cfg.stMrDataNack
          else s.cfg.stMrDataAck) ∧ s.script = ts := by decide

/-- FailedReadKeepsTheBytesBeforeIt, a timeout: the threshold reached exactly, at the first receive. -/
theorem witness_timedOutRead :
    let ts := readTurns (.rread16 0x50 0x1234 1) ++ receiveLoop [] ++ engineTurns 2 ++ ticks 10 ++ engineTurns 4 ++ []
    let s := timed ts
    Ready s ∧ MemoryOk s ∧ s.cfg.Ok ∧ readOperands (.rread16 0x50 0x1234 1) = some (1, false) ∧
      ([] : List Byte).length < effectiveCount 1 false s.cfg.rxcap ∧ s.timeout ≠ 0 ∧ s.timeout.toNat ≤ 10 ∧
      10 < 2 ^ 32 ∧ s.script = ts := by decide

/-- EffectiveCountIsCoercedAndClamped: the bounds of each clause, and where they meet (a count equal to the capacity). -/
theorem witness_effectiveCount :
    1 ≤ 1 ∧ 1 ≤ (1 : Byte).toNat ∧ (32 : Byte).toNat ≤ 32 ∧ 32 ≤ (32 : Byte).toNat ∧ 32 ≤ (255 : Byte).toNat := by decide

/-- WideWritesDecomposeMostSignificantFirst: the first and the last byte of four. -/
theorem witness_wide : 0 < 4 ∧ 3 < 4 := by decide

/-- SettoWritesTheThreshold, AvailRespondsTheCount, GetdRespondsTheDataRegister, RecvConsumesOneByte (empty, full). -/
theorem witness_buffer :
    Ready State.reset ∧ CountsOk State.reset ∧ State.reset.avail = 0 ∧ Ready buffered ∧ CountsOk buffered ∧
      buffered.avail ≠ 0 := by decide

end Sys2Proof.Tests
end

section
/-! PROOFS. Frames of whole runs: what every turn of another agent leaves alone, what the running of an instruction
keeps, and the statements about the error flag, the parameters, the threshold, the byte arrays and the streams
(10_state R28, R38, R48, R54 to R58, R82). -/
namespace Sys2Proof.Machine

/-! ### Turns of the other agents -/

theorem envStep_cfg (e : EnvEvent) (s : State) : (envStep e s).cfg = s.cfg := by
  by_cases h : e = .rst
  · rw [h]
    rfl
  · exact (envStep_keeps e s h).cfg

/-- A turn of another agent but a reset only appends to `CMDQ`, and only takes from the front of `RSPQ` and `RXOUT`
(R54, R55, R56). -/
theorem envStep_streams (e : EnvEvent) (s : State) (h : e ≠ .rst) :
    (∃ l, (envStep e s).cmdq = s.cmdq ++ l) ∧ (∃ k, (envStep e s).rspq = s.rspq.drop k) ∧
      ∃ k, (envStep e s).rxout = s.rxout.drop k := by
  cases hb : e.isBus
  · cases e with
    | rst => exact absurd rfl h
    | tick => exact ⟨⟨[], by simp [envStep, tick]⟩, ⟨0, rfl⟩, ⟨0, rfl⟩⟩
    | send b => exact ⟨⟨[b], rfl⟩, ⟨0, rfl⟩, ⟨0, rfl⟩⟩
    | takeRsp => exact ⟨⟨[], by simp [envStep, hostTakeRsp]⟩, ⟨1, rfl⟩, ⟨0, rfl⟩⟩
    | takeRx => exact ⟨⟨[], by simp [envStep, hostTakeRx]⟩, ⟨0, rfl⟩, ⟨1, rfl⟩⟩
    | done _ _ _ => simp [EnvEvent.isBus] at hb
    | sto => simp [EnvEvent.isBus] at hb
    | nominal _ _ => simp [EnvEvent.isBus] at hb
    | line _ _ => simp [EnvEvent.isBus] at hb
  · have hm := envStep_move e s hb
    generalize envStep e s = t at hm
    cases hm <;> exact ⟨⟨[], by simp⟩, ⟨0, by simp⟩, ⟨0, by simp⟩⟩

/-- A turn that is not a reset is the engine's, or one of another agent that is not a reset. -/
theorem ne_rst_of_noReset (e : EnvEvent) (h : Turn.noReset (.env e) = true) : e ≠ .rst := by
  rintro rfl
  exact absurd h (by decide)

theorem noReset_of_mem {ts : List Turn} (h : noResets ts = true) : ∀ u ∈ ts, u.noReset = true :=
  List.all_eq_true.mp h

/-- The induction over the turns of a command under a schedule without a reset: what every micro-phase and every turn
of another agent keeps while the command runs, the whole run keeps. -/
theorem runTurns_induct_noReset (P : State → Prop)
    (engine : ∀ s s', P s → s.busy = true → microStep s = .next s' → P s')
    (env : ∀ e s, e ≠ .rst → P s → s.busy = true → P (envStep e s))
    (script : ∀ l s, P s → P { s with script := l })
    {ts : List Turn} {s t : State} (hts : noResets ts = true) (hs : P s) (h : runTurns ts s = .next t) : P t := by
  refine runTurns_induct P (fun u => u.noReset = true) ?_ script ts s t (noReset_of_mem hts) hs h
  intro u v v' hu hv hb hstep
  cases u with
  | engine => exact engine v v' hv hb hstep
  | env e =>
    cases hstep
    exact env e v (ne_rst_of_noReset e hu) hv hb

/-! ### The error flag and the busy engine -/

/-- While a command runs, and in the error state, no command is admitted (R28; log entry 13). -/
theorem admitCommand_refuses (k : State → Result) (s : State) :
    (s.busy = true → admitCommand k s = .refused .busy) ∧
      (s.busy = false → s.cmderr = true → admitCommand k s = .refused .commandError) :=
  ⟨fun hb => by simp [admitCommand, hb], fun hb hc => by simp [admitCommand, hb, hc]⟩

/-- Settles O11: every host command starts through `admitCommand`, which looks at `BUSY` first. -/
theorem commandIsRefusedWhileBusyOrInError : Obligations.CommandIsRefusedWhileBusyOrInError := by
  intro i s hi
  cases hu : usesBus i
  · cases i
    case armStart | armSend | armRecvAck | armRecvNack | armStop | ctrlDisable | ctrlIdle =>
      exact absurd hi (by decide)
    case getd | avail | recv | setto =>
      simp only [exec, execGetd, execAvail, execRecv, execSetto, runLocal]
      exact admitCommand_refuses _ s
    all_goals exact absurd hu (by simp [usesBus])
  · rw [exec_usesBus i s hu]
    exact admitCommand_refuses _ s

/-- The engine's turn leaves the error flag set (R28). -/
theorem engineTurn_cmderr {s t : State} (h : engineTurn s = .next t) (hc : s.cmderr = true) : t.cmderr = true := by
  rcases engineTurn_cases s t h with ⟨_, h⟩ | ⟨_, rfl⟩ | ⟨_, _, rfl⟩ | ⟨_, h0, _⟩
  · exact (microStep_keeps s t h).1.cmderr.trans hc
  · exact hc
  · rfl
  · simp [hc] at h0

/-- Under `CMDERR = 1` with no command running the engine's turn changes nothing (R28). -/
theorem engineTurn_of_cmderr (s : State) (hb : s.busy = false) (hc : s.cmderr = true) : engineTurn s = .next s := by
  simp [engineTurn, fetch, hb, hc]

/-- Settles O9, by the cases of a step: the engine's turn and every turn of another agent but a reset keep the flag. -/
theorem commandErrorIsStickyUntilReset : Obligations.CommandErrorIsStickyUntilReset := by
  intro s t hc h
  refine ⟨fun hr => ?_, fun hb hm => ?_⟩
  · rcases step_cases s t h with ⟨l, _, h⟩ | ⟨e, l, hs, rfl⟩
    · exact engineTurn_cmderr h hc
    · have he : e ≠ .rst := by
        rintro rfl
        exact hr (by simp [hs])
      exact (envStep_keeps e _ he).cmderr.trans hc
  · rw [step_of_engineMoves s hm, engineTurn_of_cmderr { s with script := s.script.tail } hb hc] at h
    exact (Host.Outcome.next.inj h).symm

/-- Settles O10: while a command runs the engine's turn is one micro-phase, and no micro-phase touches `CMDQ`. -/
theorem busyEngineTakesNoCommandByte : Obligations.BusyEngineTakesNoCommandByte := by
  intro s t hb hm h
  rw [step_of_engineMoves s hm, engineTurn_busy { s with script := s.script.tail } hb] at h
  exact (microStep_keeps _ t h).1.cmdq

/-! ### The parameters -/

theorem runTurns_cfg (ts : List Turn) (s t : State) (h : runTurns ts s = .next t) : t.cfg = s.cfg := by
  refine runTurns_induct (fun u => u.cfg = s.cfg) (fun _ => True) ?_ (fun _ _ hv => hv) ts s t (fun _ _ => trivial)
    rfl h
  intro u v v' _ hv _ hstep
  cases u with
  | engine => exact (microStep_keeps v v' hstep).1.cfg.trans hv
  | env e =>
    cases hstep
    exact (envStep_cfg e v).trans hv

theorem begun_cfg (i : Instr) (s : State) (h : usesBus i = true) : (begun i s).cfg = s.cfg := by
  obtain ⟨_, _, _, _, _, hcfg, _⟩ := begun_keeps i s h
  exact hcfg

theorem exec_cfg (i : Instr) (s t : State) (h : exec i s = .next t) : t.cfg = s.cfg := by
  rcases exec_cases i s t h with ⟨w, _, rfl⟩ | ⟨_, hu, h⟩ | ⟨_, ms, _, rfl⟩ | ⟨_, _, rfl⟩ | ⟨_, _, rfl⟩ |
    ⟨_, _, _, rfl⟩ | ⟨_, _, _, _, rfl⟩
  · exact ctrlWrite_cfg w s
  · exact (runTurns_cfg _ _ t h).trans (begun_cfg i s hu)
  all_goals rfl

theorem engineTurn_cfg (s t : State) (h : engineTurn s = .next t) : t.cfg = s.cfg := by
  rcases engineTurn_cases s t h with ⟨_, h⟩ | ⟨_, rfl⟩ | ⟨_, _, rfl⟩ | ⟨_, _, i, rest, _, h⟩
  · exact (microStep_keeps s t h).1.cfg
  · rfl
  · rfl
  · exact (exec_cfg i _ t h :)

/-- Settles O16, by the cases of a step. -/
theorem parametersNeverChange : Obligations.ParametersNeverChange := by
  intro s t h
  rcases step_cases s t h with ⟨l, _, h⟩ | ⟨e, l, _, rfl⟩
  · exact (engineTurn_cfg _ t h :)
  · exact envStep_cfg e _

/-! ### The byte arrays -/

/-- The byte arrays of a state with the same arrays and parameters are as good. -/
theorem memoryOk_congr {s t : State} (hr : t.rxbuf = s.rxbuf) (ht : t.txbuf = s.txbuf) (hc : t.cfg = s.cfg)
    (h : MemoryOk s) : MemoryOk t := by
  simpa only [MemoryOk, hr, ht, hc] using h

theorem memoryOk_resetNow (s : State) : MemoryOk (resetNow s) := ⟨rfl, rfl, rfl, rfl⟩

theorem memoryOk_envStep (e : EnvEvent) (s : State) (h : MemoryOk s) : MemoryOk (envStep e s) := by
  by_cases he : e = .rst
  · rw [he]
    exact memoryOk_resetNow s
  · have hk := envStep_keeps e s he
    exact memoryOk_congr hk.rxbuf hk.txbuf hk.cfg h

theorem memoryOk_of_advanced {s t : State} (a : Advanced s t) (h : MemoryOk s) : MemoryOk t := by
  obtain ⟨_, _, _, _, _, rfl⟩ := a
  exact h

theorem memoryOk_storeByte (s : State) (hi : s.seq.idx.toNat < s.cfg.rxcap) (h : MemoryOk s) :
    MemoryOk (storeByte s) := by
  obtain ⟨hw, hb, htw, htb⟩ := h
  exact ⟨Memory.wf_write _ _ _ hw, Memory.below_write _ _ _ _ hb hi, htw, htb⟩

/-- A micro-phase writes `RXBUF` only where it stores a received byte, at an index it has checked (R63, R160). -/
theorem memoryOk_microStep {s t : State} (hs : microStep s = .next t) (h : MemoryOk s) : MemoryOk t := by
  obtain ⟨hk, hbuf, _⟩ := microStep_keeps s t hs
  by_cases hm : s.seq.mph = .rdData ∧ flagX s.opc = false
  · obtain ⟨hm, hx⟩ := hm
    rcases microStep_cases s t hs with ⟨_, rfl⟩ | ⟨p, _, hs⟩
    · exact h
    · simp only [hm, hx, reduceCtorEq, false_and, true_and, false_or, or_false] at hs
      obtain ⟨hi, rfl⟩ := hs
      exact memoryOk_of_advanced (advanced_nextReceive _) (memoryOk_storeByte s hi h)
  · exact memoryOk_congr (hbuf hm).rxbuf hk.txbuf hk.cfg h

theorem memoryOk_latchPayload (d : List Byte) (s : State) (h : MemoryOk s) : MemoryOk (latchPayload d s) := by
  obtain ⟨hw, hb, htw, htb⟩ := h
  exact ⟨hw, hb, Memory.wf_writeList _ _ _ htw, Memory.below_writeList _ _ _ _ htb (by simp)⟩

theorem memoryOk_clearReceive (s : State) (h : MemoryOk s) : MemoryOk (clearReceive s) := by
  unfold clearReceive
  split <;> exact h

theorem memoryOk_begun (i : Instr) (s : State) (h : MemoryOk s) : MemoryOk (begun i s) := by
  cases i
  case sbyte | write8 | write16 => exact memoryOk_latchPayload _ _ h
  case read | readX | rread8 | rread16 | rread8X | rread16X => exact memoryOk_clearReceive _ h
  all_goals exact h

theorem memoryOk_runTurns {ts : List Turn} {s t : State} (h : runTurns ts s = .next t) (hs : MemoryOk s) :
    MemoryOk t := by
  refine runTurns_induct MemoryOk (fun _ => True) ?_ (fun _ _ hv => hv) ts s t (fun _ _ => trivial) hs h
  intro u v v' _ hv _ hstep
  cases u with
  | engine => exact memoryOk_microStep hstep hv
  | env e =>
    cases hstep
    exact memoryOk_envStep e v hv

theorem memoryOk_exec {i : Instr} {s t : State} (h : exec i s = .next t) (hs : MemoryOk s) : MemoryOk t := by
  rcases exec_cases i s t h with ⟨w, _, rfl⟩ | ⟨_, _, h⟩ | ⟨_, ms, _, rfl⟩ | ⟨_, _, rfl⟩ | ⟨_, _, rfl⟩ |
    ⟨_, _, _, rfl⟩ | ⟨_, _, _, _, rfl⟩
  · exact memoryOk_congr (ctrlWrite_rxbuf w s) (ctrlWrite_txbuf w s) (ctrlWrite_cfg w s) hs
  · exact memoryOk_runTurns h (memoryOk_begun i s hs)
  all_goals exact hs

/-- Settles O15, by the cases of a step: the writes of `RXBUF` and `TXBUF` keep the canonical form and the bound. -/
theorem everyStepKeepsTheByteArraysCanonical : Obligations.EveryStepKeepsTheByteArraysCanonical := by
  intro s t hs h
  rcases step_cases s t h with ⟨l, _, h⟩ | ⟨e, l, _, rfl⟩
  · rcases engineTurn_cases _ t h with ⟨_, h⟩ | ⟨_, rfl⟩ | ⟨_, _, rfl⟩ | ⟨_, _, i, rest, _, h⟩
    · exact memoryOk_microStep h hs
    · exact hs
    · exact hs
    · exact memoryOk_exec h hs
  · exact memoryOk_envStep e _ hs

/-! ### The threshold -/

/-- Settles O17, by induction over the turns: only `SETTO` writes `TIMEOUT`. -/
theorem onlySettoChangesTheThreshold : Obligations.OnlySettoChangesTheThreshold := by
  intro i s t hi hr h
  rcases exec_cases i s t h with ⟨w, _, rfl⟩ | ⟨_, hu, h⟩ | ⟨_, ms, rfl, _⟩ | ⟨_, _, rfl⟩ | ⟨_, _, rfl⟩ |
    ⟨_, _, _, rfl⟩ | ⟨_, _, _, _, rfl⟩
  · exact ctrlWrite_timeout w s
  · obtain ⟨hto, _⟩ := begun_keeps i s hu
    exact runTurns_induct_noReset (fun u => u.timeout = s.timeout)
      (fun v v' hv _ hstep => (microStep_keeps v v' hstep).1.timeout.trans hv)
      (fun e v he hv _ => (envStep_keeps e v he).timeout.trans hv)
      (fun _ _ hv => hv) hr hto h
  · exact absurd rfl (hi ms)
  all_goals rfl

/-! ### The beginning of a command -/

@[simp] theorem clearReceive_opc (s : State) : (clearReceive s).opc = s.opc := by
  unfold clearReceive
  split <;> rfl

theorem begun_ne_rdData (i : Instr) (s : State) (hu : usesBus i = true) : (begun i s).seq.mph ≠ .rdData := by
  cases i
  case getd | avail | recv | armStart | armSend | armRecvAck | armRecvNack | armStop | ctrlDisable | ctrlIdle =>
    exact absurd hu (by decide)
  case setto => simp [usesBus] at hu
  all_goals simp [begun, firstPhase]

/-- The opcode byte a read latches says whether its bytes go to the caller's buffer (R88, R157). -/
theorem flagX_begun (i : Instr) (s : State) (hu : usesBus i = true)
    (h : isReadKind (kindOf (begun i s).opc) = true) : ∃ o ∈ readOperands i, flagX (begun i s).opc = o.2 := by
  cases i
  case read | readX | rread8 | rread16 | rread8X | rread16X =>
    exact ⟨_, rfl, by simp [begun, flagX, Op.byte]⟩
  case getd | avail | recv | armStart | armSend | armRecvAck | armRecvNack | armStop | ctrlDisable | ctrlIdle =>
    exact absurd hu (by decide)
  case setto => simp [usesBus] at hu
  all_goals simp [begun, kindOf, isReadKind, Op.byte] at h

/-- Only a buffer-less read changes the ReceiveBuffer when it begins (R159). -/
theorem receiveUntouched_begun (i : Instr) (s : State) (hx : ∀ o ∈ readOperands i, o.2 = true) :
    ReceiveUntouched s (begun i s) := by
  cases i
  case read | rread8 | rread16 => exact absurd (hx _ rfl) (by simp)
  case readX | rread8X | rread16X =>
    simp only [begun]
    rw [clearReceive_caller]
    · exact ⟨rfl, rfl, rfl, rfl⟩
    · simp [flagX, Op.byte]
  all_goals simp [ReceiveUntouched, begun]

/-! ### The ReceiveBuffer -/

/-- The running command stores no received byte in one destination, the caller's buffer (`x`) or the ReceiveBuffer: it
is no read into it and does not stand at such a store (R88, R160). -/
structure StoresNoneIn (x : Bool) (t : State) : Prop where
  noRead : isReadKind (kindOf t.opc) = true → flagX t.opc = !x
  noStore : ¬(t.seq.mph = .rdData ∧ flagX t.opc = x)

theorem storesNoneIn_microStep {x : Bool} {s t : State} (h : StoresNoneIn x s) (hs : microStep s = .next t) :
    StoresNoneIn x t := by
  obtain ⟨hread, hstore⟩ := h
  have hopc := (microStep_keeps s t hs).1.opc
  refine ⟨hopc ▸ hread, ?_⟩
  rintro ⟨hm, hx⟩
  rw [hopc] at hx
  rcases microStep_rdData s t hs hm with hm | hk
  · exact hstore ⟨hm, hx⟩
  · simp [hread hk] at hx

theorem storesNoneIn_envStep {x : Bool} {s : State} (e : EnvEvent) (he : e ≠ .rst) (h : StoresNoneIn x s) :
    StoresNoneIn x (envStep e s) := by
  have hk := envStep_keeps e s he
  refine ⟨hk.opc ▸ h.noRead, ?_⟩
  rw [hk.seq, hk.opc]
  exact h.noStore

theorem storesNoneIn_begun {x : Bool} (i : Instr) (s : State) (hu : usesBus i = true)
    (hx : ∀ o ∈ readOperands i, o.2 = !x) : StoresNoneIn x (begun i s) where
  noRead hread := by
    obtain ⟨o, ho, hflag⟩ := flagX_begun i s hu hread
    exact hflag.trans (hx o ho)
  noStore h := begun_ne_rdData i s hu h.1

/-- What holds all along a command that leaves the ReceiveBuffer of `s` alone (R48). -/
structure ReceiveFrame (s t : State) : Prop extends StoresNoneIn false t where
  untouched : ReceiveUntouched s t

theorem receiveFrame_microStep {s v v' : State} (h : ReceiveFrame s v) (hs : microStep v = .next v') :
    ReceiveFrame s v' := by
  obtain ⟨hn, hr, ha, hc, ht⟩ := h
  obtain ⟨hk, hbuf, _⟩ := microStep_keeps v v' hs
  have hb := hbuf hn.noStore
  exact ⟨storesNoneIn_microStep hn hs, hb.rxbuf.trans hr, hb.avail.trans ha, hk.cursor.trans hc, hb.total.trans ht⟩

theorem receiveFrame_envStep {s v : State} (e : EnvEvent) (he : e ≠ .rst) (h : ReceiveFrame s v) :
    ReceiveFrame s (envStep e v) := by
  obtain ⟨hn, hr, ha, hc, ht⟩ := h
  have hk := envStep_keeps e v he
  exact ⟨storesNoneIn_envStep e he hn, hk.rxbuf.trans hr, hk.avail.trans ha, hk.cursor.trans hc, hk.total.trans ht⟩

/-- Settles O18, by induction over the turns with `ReceiveFrame` as the invariant. -/
theorem onlyBufferReadsAndRecvTouchTheReceiveBuffer : Obligations.OnlyBufferReadsAndRecvTouchTheReceiveBuffer := by
  intro i s t h1 h2 h3 h4 hr h
  have hx : ∀ o ∈ readOperands i, o.2 = true := by
    cases i <;> simp_all [readOperands]
  have untouched : ReceiveUntouched s t := by
    rcases exec_cases i s t h with ⟨w, _, rfl⟩ | ⟨_, hu, h⟩ | ⟨_, ms, _, rfl⟩ | ⟨_, _, rfl⟩ | ⟨_, _, rfl⟩ |
      ⟨_, hi, _⟩ | ⟨_, hi, _⟩
    · exact ⟨by simp, by simp, by simp, by simp⟩
    · exact (runTurns_induct_noReset (ReceiveFrame s) (fun _ _ hv _ => receiveFrame_microStep hv)
        (fun e _ he hv _ => receiveFrame_envStep e he hv)
        (fun _ _ hv => ⟨⟨hv.noRead, hv.noStore⟩, hv.untouched⟩) hr
        ⟨storesNoneIn_begun i s hu hx, receiveUntouched_begun i s hx⟩ h).untouched
    · exact ⟨rfl, rfl, rfl, rfl⟩
    · exact ⟨rfl, rfl, rfl, rfl⟩
    · exact ⟨rfl, rfl, rfl, rfl⟩
    · exact absurd hi h4
    · exact absurd hi h4
  obtain ⟨hrx, hcounts⟩ := untouched
  exact ⟨fun k => by rw [hrx], hcounts⟩

/-! ### The streams -/

/-- A part of a stream the host has taken from, after it takes again. -/
theorem drop_of_drop {α : Type} {l m n : List α} (h : ∃ k, m = l.drop k) (h' : ∃ k, n = m.drop k) :
    ∃ k, n = l.drop k := by
  obtain ⟨j, rfl⟩ := h
  obtain ⟨k, rfl⟩ := h'
  exact ⟨j + k, List.drop_drop⟩

/-- What holds of the streams all along a command begun in `s` (R54, R55, R82, R115). -/
structure StreamFrame (s t : State) : Prop where
  cmdq : ∃ l, t.cmdq = s.cmdq ++ l
  cmderr : t.cmderr = s.cmderr
  running : t.busy = true → ∃ k, t.rspq = s.rspq.drop k
  ended : t.busy = false → ∃ k, t.rspq = s.rspq.drop k ++ [t.rc]

theorem streamFrame_microStep {s v v' : State} (h : StreamFrame s v) (hb : v.busy = true)
    (hs : microStep v = .next v') : StreamFrame s v' := by
  obtain ⟨hk, -, -⟩ := microStep_keeps v v' hs
  obtain ⟨k, hq⟩ := h.running hb
  have hr := microStep_responds v v' hs
  refine ⟨hk.cmdq ▸ h.cmdq, hk.cmderr.trans h.cmderr, fun hb' => ?_, fun hb' => ?_⟩
  · rcases hr with ⟨_, hr⟩ | ⟨hf, _⟩
    · exact ⟨k, hr.trans hq⟩
    · simp [hb'] at hf
  · rcases hr with ⟨hf, _⟩ | ⟨_, hr⟩
    · simp [hb, hb'] at hf
    · exact ⟨k, hr.trans (by rw [hq])⟩

theorem streamFrame_envStep {s v : State} (e : EnvEvent) (he : e ≠ .rst) (h : StreamFrame s v) (hb : v.busy = true) :
    StreamFrame s (envStep e v) := by
  have hk := envStep_keeps e v he
  obtain ⟨⟨l', hl'⟩, hrsp, -⟩ := envStep_streams e v he
  obtain ⟨l, hl⟩ := h.cmdq
  refine ⟨⟨l ++ l', by rw [hl', hl, List.append_assoc]⟩, hk.cmderr.trans h.cmderr,
    fun _ => drop_of_drop (h.running hb) hrsp, fun hb' => ?_⟩
  simp [hk.busy, hb] at hb'

theorem streamFrame_begun (i : Instr) (s : State) (hu : usesBus i = true) : StreamFrame s (begun i s) := by
  obtain ⟨_, _, herr, hcmdq, _, _, _, _, _, _, _, _, _, _, _, hrspq, _, hbusy, _⟩ := begun_keeps i s hu
  exact ⟨⟨[], by simp [hcmdq]⟩, herr, fun _ => ⟨0, hrspq⟩, fun hb => by simp [hbusy] at hb⟩

/-- What holds all along a command that is no read into the caller's buffer: nothing was appended to `RXOUT` (R56). -/
structure RxoutFrame (s t : State) : Prop extends StoresNoneIn true t where
  taken : ∃ k, t.rxout = s.rxout.drop k

theorem rxoutFrame_microStep {s v v' : State} (h : RxoutFrame s v) (hs : microStep v = .next v') :
    RxoutFrame s v' := by
  obtain ⟨hn, htaken⟩ := h
  obtain ⟨-, -, hrx⟩ := microStep_keeps v v' hs
  exact ⟨storesNoneIn_microStep hn hs, by rw [hrx hn.noStore]; exact htaken⟩

theorem rxoutFrame_envStep {s v : State} (e : EnvEvent) (he : e ≠ .rst) (h : RxoutFrame s v) :
    RxoutFrame s (envStep e v) := by
  obtain ⟨hn, htaken⟩ := h
  obtain ⟨-, -, hrx⟩ := envStep_streams e v he
  exact ⟨storesNoneIn_envStep e he hn, drop_of_drop htaken hrx⟩

theorem rxoutFrame_begun (i : Instr) (s : State) (hu : usesBus i = true) (hx : ∀ o ∈ readOperands i, o.2 = false) :
    RxoutFrame s (begun i s) := by
  obtain ⟨_, _, _, _, _, _, _, _, _, _, _, _, _, _, hrxout, _⟩ := begun_keeps i s hu
  exact ⟨storesNoneIn_begun i s hu hx, 0, hrxout⟩

theorem encodeCtrl_isCommand {i : Instr} {w : Ctrl} (h : encodeCtrl i = some w) : i.isCommand = false := by
  cases i <;> simp_all [encodeCtrl, Instr.isCommand]

theorem isCommand_of_usesBus {i : Instr} (h : usesBus i = true) : i.isCommand = true := by
  cases i <;> simp_all [usesBus, Instr.isCommand]

/-- Settles O19, by induction over the turns with `StreamFrame` and `RxoutFrame` as the invariants; a command that does
not use the bus responds at once. -/
theorem streamsChangeOnlyAsTheRulesSay : Obligations.StreamsChangeOnlyAsTheRulesSay := by
  intro i s t hr h
  rcases exec_cases i s t h with ⟨w, hw, rfl⟩ | ⟨_, hu, h⟩ | ⟨_, ms, rfl, rfl⟩ | ⟨_, rfl, rfl⟩ | ⟨_, rfl, rfl⟩ |
    ⟨_, rfl, _, rfl⟩ | ⟨_, rfl, _, _, rfl⟩
  · have hc := encodeCtrl_isCommand hw
    exact ⟨⟨[], by simp⟩, by simp, fun _ _ _ => ⟨0, by simp⟩, by simp [hc], by simp [hc], by simp⟩
  · have hf := runTurns_induct_noReset (StreamFrame s) (fun _ _ hv hb => streamFrame_microStep hv hb)
      (fun e _ he hv hb => streamFrame_envStep e he hv hb)
      (fun _ _ hv => ⟨hv.cmdq, hv.cmderr, hv.running, hv.ended⟩) hr (streamFrame_begun i s hu) h
    refine ⟨hf.cmdq, hf.cmderr, fun h1 h2 h3 => ?_, fun _ => hf.running, fun _ hb => ?_, fun hi => ?_⟩
    · have hx : ∀ o ∈ readOperands i, o.2 = false := by
        cases i <;> simp_all [readOperands]
      exact (runTurns_induct_noReset (RxoutFrame s) (fun _ _ hv _ => rxoutFrame_microStep hv)
        (fun e _ he hv _ => rxoutFrame_envStep e he hv)
        (fun _ _ hv => ⟨⟨hv.noRead, hv.noStore⟩, hv.taken⟩) hr (rxoutFrame_begun i s hu hx) h).taken
    · obtain ⟨k, hk⟩ := hf.ended hb
      exact ⟨k, t.rc, hk, fun _ _ _ _ => rfl⟩
    · simp [isCommand_of_usesBus hu] at hi
  all_goals
    exact ⟨⟨[], by simp⟩, rfl, fun _ _ _ => ⟨0, rfl⟩, fun _ hb => by simp at hb, fun _ _ => ⟨0, _, rfl, by simp⟩,
      fun hi => absurd hi (by simp [Instr.isCommand])⟩

end Sys2Proof.Machine
end

section
/-! PROOFS. Every step keeps a sound state sound (10_state R47, 20_memory R79, 41_transactions R151 and R160,
43_bus_side R195, 60_exceptions R230, 70_reset R271): the turns of the other agents, the micro-phases of the engine,
and the beginning of each command. -/
namespace Sys2Proof.Machine

/-! ### The two halves of the invariant that read `BUSY` -/

/-- `SEQ` while a command runs: what `SeqOk` says with `BUSY = 1`, its clauses named (R22 to R24, R127, R151). -/
structure RunningSeq (s : State) : Prop where
  step : stepOfKind (kindOf s.opc) s.seq.tstep = true
  nested : s.seq.nstop = true →
    s.seq.tstep = .addressWrite ∨ s.seq.tstep = .addressRead ∨ s.seq.tstep = .dataSend
  phase : ∀ p ∈ currentPrim s, phaseOfPrim s p s.seq.mph = true
  payload : kindOf s.opc = .write → s.seq.tstep = .dataSend → s.seq.seg = .payload →
    s.seq.idx.toNat < s.txlen.toNat
  receive : isReadKind (kindOf s.opc) = true → s.seq.tstep = .dataReceive → s.seq.idx.toNat < countOf s

theorem seqOk_iff_running {s : State} (hb : s.busy = true) : SeqOk s ↔ RunningSeq s := by
  simp only [SeqOk, hb, Bool.true_eq_false, if_false]
  exact ⟨fun ⟨a, b, c, d, e⟩ => ⟨a, b, c, d, e⟩, fun ⟨a, b, c, d, e⟩ => ⟨a, b, c, d, e⟩⟩

/-- The controller while a command runs: what `CtrlOk` says with `BUSY = 1`, its clauses named (R79, R230, R271). -/
structure RunningCtrl (s : State) : Prop where
  polling : s.seq.mph = .poll → ∀ p ∈ currentPrim s, PollOk s p
  quiet : s.seq.mph ≠ .poll → s.seq.mph ≠ .lock0 → s.pend = .noAct
  disabled : s.seq.mph = .lock1 → s.ctrl = 0 ∧ s.held = false
  enabled : s.seq.mph ≠ .lock1 → ctrlEN s.ctrl = true
  idle : s.seq.mph = .done → s.outc ≠ .ok ∨ s.seq.tstep = .stop ∨ s.seq.nstop = true → Idle s

theorem ctrlOk_iff_running {s : State} (hb : s.busy = true) : CtrlOk s ↔ RunningCtrl s := by
  simp only [CtrlOk, hb, Bool.true_eq_false, if_false]
  exact ⟨fun ⟨a, b, c, d, e⟩ => ⟨a, b, c, d, e⟩, fun ⟨a, b, c, d, e⟩ => ⟨a, b, c, d, e⟩⟩

theorem sound_of_running {s : State} (hb : s.busy = true) (hp : s.cfg.Ok) (hm : MemoryOk s) (hn : CountsOk s)
    (hs : RunningSeq s) (hr : ReceiveOk s) (hc : RunningCtrl s) (hl : LineOk s) : Sound s :=
  ⟨hp, hm, hn, (seqOk_iff_running hb).mpr hs, hr, (ctrlOk_iff_running hb).mpr hc, hl⟩

theorem Sound.runningSeq {s : State} (h : Sound s) (hb : s.busy = true) : RunningSeq s :=
  (seqOk_iff_running hb).mp h.sequencer

theorem Sound.runningCtrl {s : State} (h : Sound s) (hb : s.busy = true) : RunningCtrl s :=
  (ctrlOk_iff_running hb).mp h.control

theorem Sound.quiet_of_idle {s : State} (h : Sound s) (hb : s.busy = false) :
    s.pend = .noAct ∧ ctrlEN s.ctrl = true := by
  simpa only [CtrlOk, hb, if_true] using h.control

/-- An action is pending only while a command polls, or still after a timeout (R79, R227). -/
theorem Sound.of_pending {s : State} (h : Sound s) (hp : s.pend ≠ .noAct) :
    s.busy = true ∧ (s.seq.mph = .poll ∨ s.seq.mph = .lock0) := by
  cases hb : s.busy
  · exact absurd (h.quiet_of_idle hb).1 hp
  · refine ⟨rfl, ?_⟩
    by_contra hm
    obtain ⟨h1, h2⟩ := not_or.mp hm
    exact hp ((h.runningCtrl hb).quiet h1 h2)

/-! ### The arm patterns (R97) -/

theorem armWord_enabled (p : Prim) : ctrlEN (armWord p) = true := by
  rcases p with _ | d | _ | a | _
  case addr => cases d <;> rfl
  case recv => cases a <;> rfl
  all_goals rfl

theorem armedCtrl_armWord_enabled (p : Prim) : ctrlEN (armedCtrl (armWord p)) = true := by
  rcases p with _ | d | _ | a | _
  case addr => cases d <;> rfl
  case recv => cases a <;> rfl
  all_goals rfl

/-- A pending action has not completed (R95, R122). -/
theorem pollDone_armed (p : Prim) : pollDone p (armedCtrl (armWord p)) = false := by
  rcases p with _ | d | _ | a | _
  case addr => cases d <;> rfl
  case recv => cases a <;> rfl
  all_goals rfl

/-- A completion sets `CF` again: `CTRL` is then the arm pattern itself (R35, R194). -/
theorem setCF_armed (p : Prim) (hp : p ≠ .stop) : setCF (armedCtrl (armWord p)) = armWord p := by
  rcases p with _ | d | _ | a | _
  case stop => exact absurd rfl hp
  case addr => cases d <;> rfl
  case recv => cases a <;> rfl
  all_goals rfl

theorem actionOf_armWord_ne_noAct (p : Prim) : actionOf (armWord p) ≠ .noAct := by
  rcases p with _ | d | _ | a | _
  case recv => cases a <;> decide
  all_goals simp [armWord, armInstr, encodeCtrl, actionOf, ctrlSTA, ctrlSTO]

theorem actionOf_armWord_eq_stopAct (p : Prim) : actionOf (armWord p) = .stopAct ↔ p = .stop := by
  rcases p with _ | d | _ | a | _
  case recv => cases a <;> decide
  all_goals simp [armWord, armInstr, encodeCtrl, actionOf, ctrlSTA, ctrlSTO]

theorem setCF_enabled (c : Ctrl) : ctrlEN (setCF c) = ctrlEN c := by
  simp [ctrlEN, setCF]

theorem clearSTO_enabled (c : Ctrl) : ctrlEN (clearSTO c) = ctrlEN c := by
  simp [ctrlEN, clearSTO]

/-! ### The lines (R195, R218) -/

theorem lineOk_withLine {l : Line} {s : State} (hp : s.pend ≠ .noAct) (hb : l.bitn ≤ 8) : LineOk (withLine l s) :=
  ⟨fun h => absurd h hp, hb⟩

theorem lineOk_completeAction (st b : Byte) (r : Bool) (s : State) (hb : s.line.bitn ≤ 8) :
    LineOk (completeAction st b r s) := by
  refine ⟨fun _ => ⟨rfl, rfl, fun hh => ?_⟩, hb⟩
  simp only [completeAction] at hh ⊢
  simp [settleLine, hh]

theorem lineOk_completeStop (s : State) (hb : s.line.bitn ≤ 8) : LineOk (completeStop s) :=
  ⟨fun _ => ⟨rfl, rfl, fun _ => rfl⟩, hb⟩

theorem lineOk_busDone (st b : Byte) (r : Bool) (s : State) (h : LineOk s) : LineOk (busDone st b r s) := by
  unfold busDone
  split
  · cases s.pend
    case noAct | stopAct => exact h
    all_goals exact lineOk_completeAction st b r s h.2
  · exact h

theorem lineOk_busStop (s : State) (h : LineOk s) : LineOk (busStop s) := by
  unfold busStop
  split
  · cases s.pend
    case stopAct => exact lineOk_completeStop s h.2
    all_goals exact h
  · exact h

theorem lineOk_busNominal (ack : Bool) (b : Byte) (s : State) (h : LineOk s) : LineOk (busNominal ack b s) := by
  unfold busNominal
  split
  · cases s.pend
    case noAct | badAct => exact h
    case startAct => exact lineOk_completeAction _ _ _ s h.2
    case xferAct =>
      cases xferDir s.held s.mode
      case undefined => exact h
      all_goals exact lineOk_completeAction _ _ _ s h.2
    case stopAct => exact lineOk_completeStop s h.2
  · exact h

theorem lineOk_lineStart (scl : Bool) (s : State) (hp : s.pend ≠ .noAct) (h : LineOk s) :
    LineOk (lineStart scl s) := by
  have moves {l : Line} (hl : l.bitn = s.line.bitn) : LineOk (withLine l s) := lineOk_withLine hp (hl ▸ h.2)
  unfold lineStart
  cases s.line.phase
  case startLow | repLow => exact lineOk_completeAction _ _ _ _ h.2
  case repClock => exact moves rfl
  case repHigh =>
    dsimp only
    split
    · exact moves rfl
    · exact h
  case idle =>
    dsimp only
    split
    · exact moves rfl
    · split <;> exact moves rfl
  case startWait =>
    dsimp only
    split
    · exact moves rfl
    · exact h
  all_goals exact h

theorem lineOk_lineXfer (sending scl sda cond : Bool) (s : State) (hp : s.pend ≠ .noAct) (h : LineOk s) :
    LineOk (lineXfer sending scl sda cond s) := by
  have moves {l : Line} (hl : l.bitn = s.line.bitn) : LineOk (withLine l s) := lineOk_withLine hp (hl ▸ h.2)
  unfold lineXfer
  cases s.line.phase
  case idle => exact lineOk_withLine hp (Nat.zero_le 8)
  case bitSet | bitRise => exact moves rfl
  case bitHigh =>
    dsimp only
    split
    · split
      · exact lineOk_completeAction _ _ _ s h.2
      · exact moves rfl
    · exact h
  case bitFall =>
    dsimp only
    split
    · exact lineOk_completeAction _ _ _ s h.2
    · split
      · rename_i hlt
        exact lineOk_withLine hp hlt
      · exact lineOk_completeAction _ _ _ _ h.2
  all_goals exact h

theorem lineOk_lineStop (scl stopped : Bool) (s : State) (hp : s.pend ≠ .noAct) (h : LineOk s) :
    LineOk (lineStop scl stopped s) := by
  have moves {l : Line} (hl : l.bitn = s.line.bitn) : LineOk (withLine l s) := lineOk_withLine hp (hl ▸ h.2)
  unfold lineStop
  cases s.line.phase
  case idle | stopRise => exact moves rfl
  case stopHigh =>
    dsimp only
    split
    · exact moves rfl
    · exact h
  case stopFree =>
    dsimp only
    split
    · exact lineOk_completeStop s h.2
    · exact h
  all_goals exact h

theorem lineOk_lineMove (scl sda started stopped : Bool) (s : State) (h : LineOk s) :
    LineOk (lineMove scl sda started stopped s) := by
  unfold lineMove
  cases hp : s.pend
  case noAct | badAct => exact h
  case startAct => exact lineOk_lineStart scl s (by simp [hp]) h
  case xferAct =>
    dsimp only
    split
    · cases xferDir s.held s.mode
      case undefined => exact h
      all_goals exact lineOk_lineXfer _ _ _ _ s (by simp [hp]) h
    · exact h
  case stopAct =>
    dsimp only
    split
    · exact lineOk_lineStop _ _ s (by simp [hp]) h
    · exact h

theorem lineOk_lineStep (a b : Bool) (s : State) (h : LineOk s) : LineOk (lineStep a b s) := by
  unfold lineStep
  split
  · exact lineOk_lineMove _ _ _ _ (withLine (track _ _ s.line) s) h
  · exact h

theorem lineOk_envStep (e : EnvEvent) (s : State) (h : LineOk s) : LineOk (envStep e s) := by
  cases e with
  | tick => exact h
  | send b => exact h
  | takeRsp => exact h
  | takeRx => exact h
  | rst => exact ⟨fun _ => ⟨rfl, rfl, fun _ => rfl⟩, Nat.zero_le 8⟩
  | done st b r => exact lineOk_busDone st b r s h
  | sto => exact lineOk_busStop s h
  | nominal ack b => exact lineOk_busNominal ack b s h
  | line a b => exact lineOk_lineStep a b s h

/-! ### The turns of the other agents -/

/-- `CTRL` and `PEND` after the pending action has completed: where the engine polls for it, `CTRL` is the arm pattern
again; after a timeout nothing is read of it (R194, R227). -/
theorem runningCtrl_completeAction {s : State} (st b : Byte) (r : Bool) (l : Line) (h : Sound s)
    (hen : ctrlEN s.ctrl = true) (hact : s.pend ≠ .noAct) (hstop : s.pend ≠ .stopAct) :
    RunningCtrl { completeAction st b r s with line := l } := by
  obtain ⟨hb, hm⟩ := h.of_pending hact
  have hne : s.seq.mph ≠ .lock1 ∧ s.seq.mph ≠ .done := by rcases hm with hm | hm <;> simp [hm]
  refine ⟨fun hpoll p hp => ?_, fun _ _ => rfl, fun h1 => absurd h1 hne.1, fun _ => ?_, fun h1 => absurd h1 hne.2⟩
  · rcases (h.runningCtrl hb).polling hpoll p hp with ⟨hpend, hctrl⟩ | ⟨hpend, _⟩
    · have hps : p ≠ .stop := fun hps => hstop (hpend.trans ((actionOf_armWord_eq_stopAct p).mpr hps))
      refine .inr ⟨rfl, ?_⟩
      rw [if_neg hps]
      exact (congrArg setCF hctrl).trans (setCF_armed p hps)
    · exact absurd hpend hact
  · exact (setCF_enabled s.ctrl).trans hen

/-- `CTRL`, `PEND` and `HELD` after the pending stop has completed (R196). -/
theorem runningCtrl_completeStop {s : State} (l : Line) (h : Sound s) (hen : ctrlEN s.ctrl = true)
    (hact : s.pend = .stopAct) : RunningCtrl { completeStop s with line := l } := by
  obtain ⟨hb, hm⟩ := h.of_pending (by simp [hact])
  have hne : s.seq.mph ≠ .lock1 ∧ s.seq.mph ≠ .done := by rcases hm with hm | hm <;> simp [hm]
  refine ⟨fun hpoll p hp => ?_, fun _ _ => rfl, fun h1 => absurd h1 hne.1, fun _ => ?_, fun h1 => absurd h1 hne.2⟩
  · rcases (h.runningCtrl hb).polling hpoll p hp with ⟨hpend, hctrl⟩ | ⟨hpend, _⟩
    · have hps : p = .stop := (actionOf_armWord_eq_stopAct p).mp (hpend.symm.trans hact)
      subst hps
      exact .inr ⟨rfl, by rw [if_pos rfl]; exact ⟨congrArg clearSTO hctrl, rfl⟩⟩
    · simp [hact] at hpend
  · exact (clearSTO_enabled s.ctrl).trans hen

theorem sound_busMove {s t : State} (h : Sound s) (hm : BusMove s t) (hl : LineOk t) : Sound t := by
  cases hm with
  | lines l => exact ⟨h.params, h.memory, h.counts, h.sequencer, h.receive, h.control, hl⟩
  | complete st b r l hen hact hstop =>
    have hb := (h.of_pending hact).1
    exact ⟨h.params, h.memory, h.counts, h.sequencer, h.receive,
      (ctrlOk_iff_running (s := { completeAction st b r s with line := l }) hb).mpr
        (runningCtrl_completeAction st b r l h hen hact hstop), hl⟩
  | stop l hen hact =>
    have hb := (h.of_pending (by simp [hact])).1
    exact ⟨h.params, h.memory, h.counts, h.sequencer, h.receive,
      (ctrlOk_iff_running (s := { completeStop s with line := l }) hb).mpr
        (runningCtrl_completeStop l h hen hact), hl⟩

/-- A reset gives a sound state, whatever the legal parameters (R265, R271). -/
theorem sound_resetNow (s : State) (h : s.cfg.Ok) : Sound (resetNow s) where
  params := h
  memory := memoryOk_resetNow s
  counts := ⟨rfl, Nat.zero_le _⟩
  sequencer := rfl
  receive := fun hb => absurd hb (by simp [resetNow, State.reset])
  control := ⟨rfl, by simp [resetNow, State.reset, ctrlEN]⟩
  lines := ⟨fun _ => ⟨rfl, rfl, fun _ => rfl⟩, Nat.zero_le 8⟩

/-- Settles O12: the reset state is what a reset gives with the default parameters. -/
theorem resetStateIsSound : Obligations.ResetStateIsSound :=
  ⟨sound_resetNow State.reset (by decide), by decide, rfl, rfl⟩

theorem sound_envStep (e : EnvEvent) {s : State} (h : Sound s) : Sound (envStep e s) := by
  have hl := lineOk_envStep e s h.lines
  cases hb : e.isBus
  · cases e with
    | tick => exact ⟨h.params, h.memory, h.counts, h.sequencer, h.receive, h.control, hl⟩
    | send b => exact ⟨h.params, h.memory, h.counts, h.sequencer, h.receive, h.control, hl⟩
    | takeRsp => exact ⟨h.params, h.memory, h.counts, h.sequencer, h.receive, h.control, hl⟩
    | takeRx => exact ⟨h.params, h.memory, h.counts, h.sequencer, h.receive, h.control, hl⟩
    | rst => exact sound_resetNow s h.params
    | done _ _ _ => simp [EnvEvent.isBus] at hb
    | sto => simp [EnvEvent.isBus] at hb
    | nominal _ _ => simp [EnvEvent.isBus] at hb
    | line _ _ => simp [EnvEvent.isBus] at hb
  · exact sound_busMove h (envStep_move e s hb) hl

end Sys2Proof.Machine
end

section
/-! PROOFS. Every step keeps a sound state sound, second part: where a step of a command begins, and what moving
on inside a primitive needs (40_primitives R121, 41_transactions R151). -/
namespace Sys2Proof.Machine

/-! ### Between two primitives -/

/-- What holds of a sound state in which no primitive drives the bus side: nothing is pending and the controller is
enabled (R79, R230). A primitive or a command can begin here, or a command end. -/
structure Between (s : State) : Prop where
  params : s.cfg.Ok
  memory : MemoryOk s
  counts : CountsOk s
  quiet : s.pend = .noAct
  enabled : ctrlEN s.ctrl = true
  lines : LineOk s

theorem between_of_ready {s : State} (h : Sound s) (hb : s.busy = false) : Between s :=
  ⟨h.params, h.memory, h.counts, (h.quiet_of_idle hb).1, (h.quiet_of_idle hb).2, h.lines⟩

theorem between_of_phase {s : State} (h : Sound s) (hb : s.busy = true) (h1 : s.seq.mph ≠ .poll)
    (h2 : s.seq.mph ≠ .lock0) (h3 : s.seq.mph ≠ .lock1) : Between s :=
  ⟨h.params, h.memory, h.counts, (h.runningCtrl hb).quiet h1 h2, (h.runningCtrl hb).enabled h3, h.lines⟩

/-- The end of a command leaves a sound state with no command running (R115, R151). -/
theorem sound_finish (c : Byte) {s : State} (h : Between s) : Sound (finish c s) :=
  ⟨h.params, h.memory, h.counts, rfl, fun hb => absurd hb (by simp), ⟨h.quiet, h.enabled⟩, h.lines⟩

/-- The first micro-phase of a step belongs to the primitive of the step (R121). -/
theorem phaseOfPrim_firstPhase (s : State) (k : TStep) (a : Bool) (p : Prim) (h : p ∈ primOfStep k a) :
    phaseOfPrim s p (firstPhase k) = true := by
  cases k
  case noStep => simp [primOfStep] at h
  all_goals
    obtain rfl := Option.some.inj h
    rfl

theorem stepOfKind_noStep (c : CmdKind) : stepOfKind c .noStep = false := by cases c <;> rfl

theorem firstPhase_ne_done {c : CmdKind} {k : TStep} (h : stepOfKind c k = true) : firstPhase k ≠ .done := by
  cases k
  case noStep => simp [stepOfKind_noStep] at h
  all_goals simp [firstPhase]

/-- A step begins in a sound state: it belongs to the kind of the command, its loop index is below the bound, and a
buffer-less read has stored as many bytes as its index says (R150, R151, R160). -/
theorem sound_beginStep (k : TStep) (g : Seg) (i : Byte) {s : State} (h : Between s) (hb : s.busy = true)
    (hk : stepOfKind (kindOf s.opc) k = true)
    (hpay : kindOf s.opc = .write → k = .dataSend → g = .payload → i.toNat < s.txlen.toNat)
    (hrecv : isReadKind (kindOf s.opc) = true → k = .dataReceive → i.toNat < countOf s)
    (htotal : isReadKind (kindOf s.opc) = true → flagX s.opc = false →
      (k = .dataReceive → s.total = i) ∧ (k ≠ .dataReceive → k ≠ .stop → s.total = 0)) :
    Sound (beginStep k g i s) := by
  refine sound_of_running hb h.params h.memory h.counts ?_ (fun _ => htotal) ?_ h.lines
  · exact
      { step := hk
        nested := fun hn => absurd hn (by simp)
        phase := fun p hp => phaseOfPrim_firstPhase _ k _ p hp
        payload := hpay
        receive := hrecv }
  · exact
      { polling := fun hm => absurd hm (by cases k <;> simp [firstPhase])
        quiet := fun _ _ => h.quiet
        disabled := fun hm => absurd hm (by cases k <;> simp [firstPhase])
        enabled := fun _ => h.enabled
        idle := fun hm => absurd hm (firstPhase_ne_done hk) }

/-! ### Moving on inside a primitive -/

theorem countOf_congr {s t : State} (hk : EngineKeeps s t) : countOf t = countOf s := by
  rw [countOf, countOf, hk.opc, hk.cnt, hk.cfg]

theorem ackOf_congr {s t : State} {m : Mph} (hk : EngineKeeps s t) (hseq : t.seq = { s.seq with mph := m }) :
    ackOf t = ackOf s := by
  rw [ackOf, ackOf, countOf_congr hk, hk.opc, hseq]

/-- The primitive that runs depends on `SEQ` but its micro-phase, on `OPC`, `CNT` and the parameters. -/
theorem currentPrim_congr {s t : State} {m : Mph} (hk : EngineKeeps s t) (hseq : t.seq = { s.seq with mph := m }) :
    currentPrim t = currentPrim s := by
  rw [currentPrim, currentPrim, ackOf_congr hk hseq, hseq]

theorem phaseOfPrim_congr {s t : State} {m : Mph} (p : Prim) (hk : EngineKeeps s t)
    (hseq : t.seq = { s.seq with mph := m }) (n : Mph) : phaseOfPrim t p n = phaseOfPrim s p n := by
  cases p <;> simp only [phaseOfPrim, dataOperand, hseq, hk.opc, Option.isSome]

/-- A micro-phase that stores no byte and only moves on to another micro-phase of the same primitive keeps all of
`Sound` but the controller's side, which is left to show. -/
theorem sound_of_moved {s t : State} (m : Mph) (h : Sound s) (hb : s.busy = true) (hk : EngineKeeps s t)
    (hbuf : BufferKeeps s t) (hbt : t.busy = true) (hseq : t.seq = { s.seq with mph := m })
    (hphase : ∀ p ∈ currentPrim s, phaseOfPrim s p m = true) (hc : RunningCtrl t) (hl : LineOk t) : Sound t := by
  have hs := h.runningSeq hb
  refine sound_of_running hbt (hk.cfg ▸ h.params) (memoryOk_congr hbuf.rxbuf hk.txbuf hk.cfg h.memory) ?_
    ⟨?_, ?_, ?_, ?_, ?_⟩ ?_ hc hl
  · simpa only [CountsOk, hk.cursor, hbuf.avail, hbuf.total, hk.cfg] using h.counts
  · simpa only [hk.opc, hseq] using hs.step
  · simpa only [hseq] using hs.nested
  · intro p hp
    rw [currentPrim_congr hk hseq] at hp
    rw [phaseOfPrim_congr p hk hseq, hseq]
    exact hphase p hp
  · simpa only [hk.opc, hseq, hk.txlen] using hs.payload
  · simpa only [hk.opc, hseq, countOf_congr hk] using hs.receive
  · simpa only [ReceiveOk, hbt, hb, hk.opc, hbuf.total, hseq] using h.receive

/-- The controller after the engine moved on to a micro-phase that neither polls nor recovers, with nothing pending. -/
theorem runningCtrl_of_quiet {t : State} (hquiet : t.pend = .noAct) (hen : ctrlEN t.ctrl = true)
    (h1 : t.seq.mph ≠ .poll) (h2 : t.seq.mph ≠ .lock1)
    (hidle : t.seq.mph = .done → t.outc ≠ .ok ∨ t.seq.tstep = .stop ∨ t.seq.nstop = true → Idle t) :
    RunningCtrl t :=
  ⟨fun hm => absurd hm h1, fun _ _ => hquiet, fun hm => absurd hm h2, fun _ => hen, hidle⟩

/-- The controller after a failure was taken: only `EN = 1` is known until the first write of `lockup()` (R227). -/
theorem runningCtrl_of_lock0 {t : State} (hm : t.seq.mph = .lock0) (hen : ctrlEN t.ctrl = true) : RunningCtrl t :=
  ⟨fun h => by simp [hm] at h, fun _ h => absurd hm h, fun h => by simp [hm] at h, fun _ => hen,
    fun h => by simp [hm] at h⟩

/-- The primitive of a nested stop, or of the step `STOP`, is `stop` (R127, R233). -/
theorem not_stop_of_currentPrim {s : State} {p : Prim} (hp : currentPrim s = some p) (hne : p ≠ .stop) :
    s.seq.nstop = false ∧ s.seq.tstep ≠ .stop := by
  unfold currentPrim at hp
  cases hn : s.seq.nstop <;> rw [hn] at hp
  · refine ⟨rfl, fun ht => ?_⟩
    rw [ht] at hp
    exact hne (Option.some.inj hp).symm
  · exact absurd (Option.some.inj hp).symm hne

/-- Only the sends write `DATA`, and they are the primitives of three steps (R121, R233). -/
theorem tstep_of_send {s : State} {p : Prim} (hp : currentPrim s = some p) (hsend : (dataOperand p s).isSome = true) :
    s.seq.tstep = .addressWrite ∨ s.seq.tstep = .addressRead ∨ s.seq.tstep = .dataSend := by
  have hne : p ≠ .stop := by
    rintro rfl
    exact absurd hsend (by simp [dataOperand])
  have hn := (not_stop_of_currentPrim hp hne).1
  unfold currentPrim at hp
  rw [hn] at hp
  cases ht : s.seq.tstep <;> rw [ht] at hp
  case addressWrite | addressRead | dataSend => simp
  case noStep => cases hp
  all_goals
    obtain rfl := Option.some.inj hp
    simp [dataOperand] at hsend

/-- Only a send can be refused by the slave (R134, R137, R225). -/
theorem dataOperand_of_nack {s : State} {p : Prim} (h : classify s.cfg p s.status = .nack) :
    (dataOperand p s).isSome = true := by
  rcases p with _ | d | _ | a | _
  case addr | byte => rfl
  case stop => cases h
  all_goals
    simp only [classify] at h
    split_ifs at h

end Sys2Proof.Machine
end

section
/-! PROOFS. Every step keeps a sound state sound, third part: the micro-phases of a primitive and of lockup recovery
(40_primitives R121, 60_exceptions R230). -/
namespace Sys2Proof.Machine

/-- The frame of a micro-phase that stores no received byte. -/
theorem microStep_keeps_all {s t : State} (hs : microStep s = .next t) (hm : s.seq.mph ≠ .rdData) :
    EngineKeeps s t ∧ BufferKeeps s t := by
  obtain ⟨hk, hbuf, -⟩ := microStep_keeps s t hs
  exact ⟨hk, hbuf fun h => hm h.1⟩

theorem phaseData_eq (p : Prim) (s : State) : ∃ d e, phaseData p s = gotoPhase .t0 { s with data := d, ev := e } := by
  unfold phaseData
  split
  · exact ⟨_, _, rfl⟩
  · exact ⟨s.data, s.ev, rfl⟩

section
variable {s : State} {p : Prim} (h : Sound s) (hb : s.busy = true) (hp : currentPrim s = some p)
include h hb hp

theorem sound_phaseData (hm : s.seq.mph = .data) : Sound (phaseData p s) := by
  have hq := between_of_phase h hb (by simp [hm]) (by simp [hm]) (by simp [hm])
  obtain ⟨hk, hbuf⟩ := microStep_keeps_all (microStep_data s p hp hm) (by simp [hm])
  obtain ⟨d, e, ht⟩ := phaseData_eq p s
  rw [ht] at hk hbuf ⊢
  exact sound_of_moved .t0 h hb hk hbuf hb rfl (fun _ _ => rfl)
    (runningCtrl_of_quiet hq.quiet hq.enabled (by simp) (by simp) (by simp)) hq.lines

theorem sound_phaseT0 (hm : s.seq.mph = .t0) : Sound (phaseT0 s) := by
  have hq := between_of_phase h hb (by simp [hm]) (by simp [hm]) (by simp [hm])
  obtain ⟨hk, hbuf⟩ := microStep_keeps_all (microStep_t0 s p hp hm) (by simp [hm])
  exact sound_of_moved .arm h hb hk hbuf hb rfl (fun _ _ => rfl)
    (runningCtrl_of_quiet hq.quiet hq.enabled (by simp [phaseT0]) (by simp [phaseT0]) (by simp [phaseT0])) hq.lines

/-- The arm leaves the running primitive's action pending and `CTRL` as the arm pattern without `CF` (R95, R192). -/
theorem sound_phaseArm (hm : s.seq.mph = .arm) : Sound (phaseArm p s) := by
  obtain ⟨hk, hbuf⟩ := microStep_keeps_all (microStep_arm s p hp hm) (by simp [hm])
  have ht : phaseArm p s = gotoPhase .poll (arm (armWord p) (emit (.ctrl (armWord p)) s)) := by
    rw [phaseArm, ctrlWrite_armWord]
  rw [ht] at hk hbuf ⊢
  refine sound_of_moved .poll h hb hk hbuf hb rfl (fun _ _ => rfl) ⟨fun _ q hq => ?_, ?_, ?_, fun _ => ?_, ?_⟩ ⟨?_, ?_⟩
  · rw [currentPrim_congr hk rfl, hp] at hq
    obtain rfl := Option.some.inj hq
    exact .inl ⟨rfl, rfl⟩
  · exact fun hm => absurd rfl hm
  · exact fun hm => absurd hm (by simp)
  · exact armedCtrl_armWord_enabled p
  · exact fun hm => absurd hm (by simp)
  · exact fun hpend => absurd hpend (actionOf_armWord_ne_noAct p)
  · exact Nat.zero_le 8

/-- A completed poll: the action has completed, and a completed stop has left `CTRL` as R196 says. -/
theorem quiet_of_pollDone (hm : s.seq.mph = .poll) (hdone : pollDone p s.ctrl = true) :
    s.pend = .noAct ∧ (p = .stop → s.ctrl = 0b00001 ∧ s.held = false) := by
  rcases (h.runningCtrl hb).polling hm p hp with ⟨_, hctrl⟩ | ⟨hpend, hctrl⟩
  · rw [hctrl, pollDone_armed] at hdone
    cases hdone
  · exact ⟨hpend, fun hs => by simpa only [hs, if_true] using hctrl⟩

theorem sound_afterCompletion (hm : s.seq.mph = .poll) (hdone : pollDone p s.ctrl = true)
    (hk : EngineKeeps s (afterCompletion p s)) (hbuf : BufferKeeps s (afterCompletion p s)) :
    Sound (afterCompletion p s) := by
  have hen := (h.runningCtrl hb).enabled (by simp [hm])
  obtain ⟨hpend, hstop⟩ := quiet_of_pollDone h hb hp hm hdone
  by_cases hps : p = .stop
  · obtain ⟨hctrl, hheld⟩ := hstop hps
    subst hps
    refine sound_of_moved .done h hb hk hbuf hb rfl (fun _ _ => rfl)
      (runningCtrl_of_quiet hpend hen (by simp [afterCompletion]) (by simp [afterCompletion]) fun _ _ => ?_) h.lines
    simp [afterCompletion, Idle, hctrl, hheld, hpend, ctrlEN, ctrlSTA, ctrlSTO, ctrlCF]
  · have ht : afterCompletion p s = gotoPhase .status s := by
      cases p
      case stop => exact absurd rfl hps
      all_goals rfl
    rw [ht] at hk hbuf ⊢
    refine sound_of_moved .status h hb hk hbuf hb rfl (fun q hq => ?_)
      (runningCtrl_of_quiet hpend hen (by simp) (by simp) (by simp)) h.lines
    obtain rfl := Option.some.inj (hp.symm.trans hq)
    simp [phaseOfPrim, hps]

theorem sound_phasePoll (hm : s.seq.mph = .poll) : Sound (phasePoll p s) := by
  obtain ⟨hk, hbuf⟩ := microStep_keeps_all (microStep_poll s p hp hm) (by simp [hm])
  unfold phasePoll at hk hbuf ⊢
  cases hi : pollIteration (pollDone p s.ctrl) s.timeout s.now s.t0 <;> rw [hi] at hk hbuf
  case completed =>
    have hdone : pollDone p s.ctrl = true := by
      unfold pollIteration at hi
      split_ifs at hi with hd
      exact hd
    exact sound_afterCompletion h hb hp hm hdone hk hbuf
  case timedOut =>
    have hen := (h.runningCtrl hb).enabled (by simp [hm])
    exact sound_of_moved .lock0 h hb hk hbuf hb rfl (fun _ _ => rfl) (runningCtrl_of_lock0 rfl hen) h.lines
  · exact h

/-- The nested stop of a refused send begins at `M_T0` (R127). -/
theorem sound_beginNestedStop (hm : s.seq.mph = .status) (hsend : (dataOperand p s).isSome = true) :
    Sound (beginNestedStop { s with saved := s.status }) := by
  have hq := between_of_phase h hb (by simp [hm]) (by simp [hm]) (by simp [hm])
  have hs := h.runningSeq hb
  have htstep := tstep_of_send hp hsend
  refine sound_of_running hb h.params h.memory h.counts ?_ h.receive ?_ h.lines
  · exact ⟨hs.step, fun _ => htstep, fun _ _ => rfl, hs.payload, hs.receive⟩
  · exact runningCtrl_of_quiet hq.quiet hq.enabled (by simp [beginNestedStop]) (by simp [beginNestedStop])
      (by simp [beginNestedStop])

theorem sound_phaseStatus (hm : s.seq.mph = .status) : Sound (phaseStatus p s) := by
  have hq := between_of_phase h hb (by simp [hm]) (by simp [hm]) (by simp [hm])
  obtain ⟨hk, hbuf⟩ := microStep_keeps_all (microStep_status s p hp hm) (by simp [hm])
  unfold phaseStatus at hk hbuf ⊢
  cases hv : classify s.cfg p s.status <;> rw [hv] at hk hbuf
  case success =>
    have hps : p ≠ .stop := by
      have hphase := (h.runningSeq hb).phase p hp
      simpa [hm, phaseOfPrim] using hphase
    obtain ⟨hn, ht⟩ := not_stop_of_currentPrim hp hps
    exact sound_of_moved .done h hb hk hbuf hb rfl (fun _ _ => rfl)
      (runningCtrl_of_quiet hq.quiet hq.enabled (by simp) (by simp) (by simp [hn, ht])) h.lines
  case nack => exact sound_beginNestedStop h hb hp hm (dataOperand_of_nack hv)
  case busFault =>
    exact sound_of_moved .lock0 h hb hk hbuf hb rfl (fun _ _ => rfl) (runningCtrl_of_lock0 rfl hq.enabled) h.lines

/-! ### Lockup recovery (R230) -/

theorem sound_lockupFirst (hm : s.seq.mph = .lock0) : Sound (lockupFirst s) := by
  obtain ⟨hk, hbuf⟩ := microStep_keeps_all (microStep_lock0 s p hp hm) (by simp [hm])
  have ht : lockupFirst s = gotoPhase .lock1 (disable (emit (.ctrl 0b00000) s)) := by
    rw [lockupFirst, ctrlWrite_disable]
  rw [ht] at hk hbuf ⊢
  refine sound_of_moved .lock1 h hb hk hbuf hb rfl (fun _ _ => rfl) ?_
    ⟨fun _ => ⟨rfl, rfl, fun _ => rfl⟩, Nat.zero_le 8⟩
  exact ⟨fun hm => absurd hm (by simp), fun _ _ => rfl, fun _ => ⟨rfl, rfl⟩, fun hm => absurd rfl hm,
    fun hm => absurd hm (by simp)⟩

theorem sound_lockupSecond (hm : s.seq.mph = .lock1) : Sound (lockupSecond s) := by
  obtain ⟨hk, hbuf⟩ := microStep_keeps_all (microStep_lock1 s p hp hm) (by simp [hm])
  have hc := h.runningCtrl hb
  have hpend := hc.quiet (by simp [hm]) (by simp [hm])
  obtain ⟨hctrl, hheld⟩ := hc.disabled hm
  have ht : lockupSecond s = gotoPhase .done { emit (.ctrl 0b00011) s with ctrl := 0b00011 } := by
    rw [lockupSecond, ctrlWrite_idle, hctrl]
    rfl
  rw [ht] at hk hbuf ⊢
  refine sound_of_moved .done h hb hk hbuf hb rfl (fun _ _ => rfl)
    (runningCtrl_of_quiet hpend (by simp [ctrlEN]) (by simp) (by simp) fun _ _ => ?_) h.lines
  simp [Idle, hheld, hpend, ctrlEN, ctrlSTA, ctrlSTO, ctrlCF]

end

end Sys2Proof.Machine
end

section
/-! PROOFS. Every step keeps a sound state sound, last part: the end of a primitive, the store of a received byte, the
beginning of each command, and the step (30_encoding R87, 41_transactions R150 to R166). -/
namespace Sys2Proof.Machine

/-! ### The next primitive of a command (R145, R150, R152, R158, R164) -/

theorem countOf_pos (s : State) (h : s.cfg.Ok) : 0 < countOf s := by
  obtain ⟨h1, -⟩ := h
  unfold countOf effectiveCount
  split <;> omega

section
variable {s : State} (h : Sound s) (hb : s.busy = true) (hm : s.seq.mph = .done)
include h hb hm

theorem between_of_done : Between s := between_of_phase h hb (by simp [hm]) (by simp [hm]) (by simp [hm])

/-- `WRITE` goes on to a step of its own, a payload index below `TXLEN` (R152). -/
theorem sound_beginStep_write (k : TStep) (g : Seg) (i : Byte) (hk : kindOf s.opc = .write)
    (hstep : stepOfKind .write k = true) (hpay : k = .dataSend → g = .payload → i.toNat < s.txlen.toNat) :
    Sound (beginStep k g i s) :=
  sound_beginStep k g i (between_of_done h hb hm) hb (hk ▸ hstep) (fun _ => hpay)
    (fun hr => absurd hr (by simp [hk, isReadKind])) (fun hr => absurd hr (by simp [hk, isReadKind]))

theorem sound_payloadOrStop (i : Byte) (hk : kindOf s.opc = .write) : Sound (payloadOrStop i s) := by
  unfold payloadOrStop
  split
  · rename_i hi
    exact sound_beginStep_write h hb hm _ _ _ hk rfl fun _ _ => hi
  · exact sound_beginStep_write h hb hm _ _ _ hk rfl (by simp)

theorem sound_advanceWrite (hk : kindOf s.opc = .write) : Sound (advanceWrite s) := by
  have ends : Sound (finish 0 s) := sound_finish 0 (between_of_done h hb hm)
  unfold advanceWrite
  cases s.seq.tstep
  case start => exact sound_beginStep_write h hb hm _ _ _ hk rfl (by simp)
  case addressWrite =>
    refine sound_beginStep_write h hb hm _ _ _ hk rfl fun _ hg => absurd hg ?_
    unfold firstSel
    split <;> simp
  case dataSend =>
    cases s.seq.seg
    case selHi => exact sound_beginStep_write h hb hm _ _ _ hk rfl (by simp)
    all_goals exact sound_payloadOrStop h hb hm _ hk
  all_goals exact ends

/-- Before its receive loop a read goes on with index 0 and an empty ReceiveBuffer (R158, R159, R164). -/
theorem sound_beginStep_read (k : TStep) (g : Seg) (hk : isReadKind (kindOf s.opc) = true)
    (hstep : stepOfKind (kindOf s.opc) k = true) (h1 : s.seq.tstep ≠ .dataReceive) (h2 : s.seq.tstep ≠ .stop) :
    Sound (beginStep k g 0 s) := by
  refine sound_beginStep k g 0 (between_of_done h hb hm) hb hstep
    (fun hw => absurd hk (by simp [hw, isReadKind])) (fun _ _ => countOf_pos s h.params) fun _ hx => ?_
  have hzero := (h.receive hb hk hx).2 h1 h2
  exact ⟨fun _ => hzero, fun _ _ => hzero⟩

/-- A received byte goes on to its store (R121, R160). -/
theorem sound_gotoRdData (hk : isReadKind (kindOf s.opc) = true) (ht : s.seq.tstep = .dataReceive)
    (hn : s.seq.nstop = false) : Sound (gotoPhase .rdData s) := by
  have hq := between_of_done h hb hm
  exact sound_of_moved .rdData h hb (by constructor <;> rfl) (by constructor <;> rfl) hb rfl
    (fun _ _ => by simp [phaseOfPrim, hk, ht, hn])
    (runningCtrl_of_quiet hq.quiet hq.enabled (by simp) (by simp) (by simp)) hq.lines

theorem sound_advanceRead (hn : s.seq.nstop = false) (hk : kindOf s.opc = .read) : Sound (advanceRead s) := by
  have ends : Sound (finish 0 s) := sound_finish 0 (between_of_done h hb hm)
  have hr : isReadKind (kindOf s.opc) = true := by rw [hk]; rfl
  unfold advanceRead
  cases ht : s.seq.tstep
  case start | addressRead =>
    exact sound_beginStep_read h hb hm _ _ hr (by rw [hk]; rfl) (by simp [ht]) (by simp [ht])
  case dataReceive => exact sound_gotoRdData h hb hm hr ht hn
  all_goals exact ends

theorem sound_advanceRRead (hn : s.seq.nstop = false) (hk : kindOf s.opc = .rread) : Sound (advanceRRead s) := by
  have ends : Sound (finish 0 s) := sound_finish 0 (between_of_done h hb hm)
  have hr : isReadKind (kindOf s.opc) = true := by rw [hk]; rfl
  unfold advanceRRead
  cases ht : s.seq.tstep
  case start | addressWrite | repeatedStart | addressRead =>
    exact sound_beginStep_read h hb hm _ _ hr (by rw [hk]; rfl) (by simp [ht]) (by simp [ht])
  case dataSend =>
    cases s.seq.seg <;> exact sound_beginStep_read h hb hm _ _ hr (by rw [hk]; rfl) (by simp [ht]) (by simp [ht])
  case dataReceive => exact sound_gotoRdData h hb hm hr ht hn
  all_goals exact ends

/-- The nested stop ends; the refused send goes on to its own end, the controller idle (R127). -/
theorem sound_endNestedStop (hn : s.seq.nstop = true) : Sound (endNestedStop s) := by
  have hq := between_of_done h hb hm
  have hs := h.runningSeq hb
  have hidle := (h.runningCtrl hb).idle hm (.inr (.inr hn))
  refine sound_of_running hb h.params h.memory h.counts ?_ h.receive ?_ h.lines
  · exact ⟨hs.step, fun hf => absurd hf (by simp [endNestedStop]), fun _ _ => rfl, hs.payload, hs.receive⟩
  · exact runningCtrl_of_quiet hq.quiet hq.enabled (by simp [endNestedStop]) (by simp [endNestedStop])
      fun _ _ => hidle

theorem sound_phaseDone : Sound (phaseDone s) := by
  unfold phaseDone
  cases hn : s.seq.nstop
  case true => exact sound_endNestedStop h hb hm hn
  case false =>
    unfold checkOutcome
    cases s.outc
    case ok =>
      unfold advance
      cases hk : kindOf s.opc
      case primitive => exact sound_finish 0 (between_of_done h hb hm)
      case write => exact sound_advanceWrite h hb hm hk
      case read => exact sound_advanceRead h hb hm hn hk
      case rread => exact sound_advanceRRead h hb hm hn hk
    case timeout | status => exact sound_finish _ (between_of_done h hb hm)

end

/-! ### The store of a received byte (R160) -/

/-- After a store the loop goes on with the next index, or to the final stop. -/
theorem sound_nextReceive {s : State} (h : Between s) (hb : s.busy = true) (hk : isReadKind (kindOf s.opc) = true)
    (htotal : flagX s.opc = false → s.total = s.seq.idx + 1) : Sound (nextReceive s) := by
  have hstep : stepOfKind (kindOf s.opc) .dataReceive = true ∧ stepOfKind (kindOf s.opc) .stop = true := by
    cases hc : kindOf s.opc <;> simp_all [isReadKind, stepOfKind]
  have hnw (hw : kindOf s.opc = .write) : False := by simp [hw, isReadKind] at hk
  unfold nextReceive
  split
  · rename_i hi
    refine sound_beginStep _ _ _ h hb hstep.1 (fun hw => (hnw hw).elim) (fun _ _ => ?_)
      fun _ hx => ⟨fun _ => htotal hx, fun hne => absurd rfl hne⟩
    exact lt_of_le_of_lt (by simpa using Nat.mod_le _ _) hi
  · exact sound_beginStep _ _ _ h hb hstep.2 (fun hw => (hnw hw).elim) (by simp) (by simp)

/-- A store counts one byte more, which fits (R44, R160). -/
theorem countsOk_storeByte {s : State} (h : CountsOk s) (hp : s.cfg.Ok) (hlt : s.total.toNat < s.cfg.rxcap) :
    CountsOk (storeByte s) := by
  obtain ⟨hsum, -⟩ := h
  obtain ⟨-, hcap, -⟩ := hp
  have ht : (s.total + 1).toNat = s.total.toNat + 1 := by
    rw [BitVec.toNat_add]
    exact Nat.mod_eq_of_lt (by simp; omega)
  have ha : (s.avail + 1).toNat = s.avail.toNat + 1 := by
    rw [BitVec.toNat_add]
    exact Nat.mod_eq_of_lt (by simp; omega)
  simp only [CountsOk, storeByte_cursor, storeByte_avail, storeByte_total, storeByte_cfg, ht, ha]
  omega

section
variable {s : State} {p : Prim} (h : Sound s) (hb : s.busy = true) (hp : currentPrim s = some p)
  (hm : s.seq.mph = .rdData)
include h hb hp hm

theorem tstep_of_rdData : isReadKind (kindOf s.opc) = true ∧ s.seq.tstep = .dataReceive := by
  have hphase := (h.runningSeq hb).phase p hp
  simp only [hm, phaseOfPrim, Bool.and_eq_true, decide_eq_true_eq] at hphase
  exact hphase.1

theorem sound_rxAppend (hx : flagX s.opc = true) : Sound (nextReceive (rxAppend s.data s)) := by
  have hq := between_of_phase h hb (by simp [hm]) (by simp [hm]) (by simp [hm])
  obtain ⟨hk, -⟩ := tstep_of_rdData h hb hp hm
  exact sound_nextReceive (s := rxAppend s.data s)
    ⟨hq.params, hq.memory, hq.counts, hq.quiet, hq.enabled, hq.lines⟩ hb hk fun hx' => absurd hx (by simpa using hx')

theorem sound_storeByte (hx : flagX s.opc = false) (hi : s.seq.idx.toNat < s.cfg.rxcap) :
    Sound (nextReceive (storeByte s)) := by
  have hq := between_of_phase h hb (by simp [hm]) (by simp [hm]) (by simp [hm])
  obtain ⟨hk, ht⟩ := tstep_of_rdData h hb hp hm
  have htotal : s.total = s.seq.idx := (h.receive hb hk hx).1 ht
  exact sound_nextReceive (s := storeByte s)
    ⟨hq.params, memoryOk_storeByte s hi hq.memory, countsOk_storeByte hq.counts hq.params (htotal ▸ hi), hq.quiet,
      hq.enabled, hq.lines⟩ hb hk fun _ => congrArg (· + 1) htotal

end

/-- Every micro-phase keeps a sound state sound (R121). -/
theorem sound_microStep {s t : State} (h : Sound s) (hb : s.busy = true) (hs : microStep s = .next t) : Sound t := by
  rcases microStep_cases s t hs with ⟨_, rfl⟩ | ⟨p, hp, hs⟩
  · exact h
  · rcases hs with ⟨hm, rfl⟩ | ⟨hm, rfl⟩ | ⟨hm, rfl⟩ | ⟨hm, rfl⟩ | ⟨hm, rfl⟩ | ⟨hm, hx, rfl⟩ | ⟨hm, hx, hi, rfl⟩ |
      ⟨hm, rfl⟩ | ⟨hm, rfl⟩ | ⟨hm, rfl⟩
    · exact sound_phaseData h hb hp hm
    · exact sound_phaseT0 h hb hp hm
    · exact sound_phaseArm h hb hp hm
    · exact sound_phasePoll h hb hp hm
    · exact sound_phaseStatus h hb hp hm
    · exact sound_rxAppend h hb hp hm hx
    · exact sound_storeByte h hb hp hm hx hi
    · exact sound_lockupFirst h hb hp hm
    · exact sound_lockupSecond h hb hp hm
    · exact sound_phaseDone h hb hm

/-! ### The commands -/

/-- Every kind of command has a step `START` (R145, R150). -/
theorem stepOfKind_start (c : CmdKind) : stepOfKind c .start = true := by cases c <;> rfl

section
variable {s : State} (h : Between s)
include h

theorem between_latchOpc (o : Op) : Between (latchOpc o s) :=
  ⟨h.params, h.memory, h.counts, h.quiet, h.enabled, h.lines⟩

theorem between_latchSla (a : SlaveAddr) : Between (latchSla a s) :=
  ⟨h.params, h.memory, h.counts, h.quiet, h.enabled, h.lines⟩

theorem between_latchSel8 (e : Byte) : Between (latchSel8 e s) :=
  ⟨h.params, h.memory, h.counts, h.quiet, h.enabled, h.lines⟩

theorem between_latchSel16 (e : Half) : Between (latchSel16 e s) :=
  ⟨h.params, h.memory, h.counts, h.quiet, h.enabled, h.lines⟩

theorem between_latchCnt (c : Byte) : Between (latchCnt c s) :=
  ⟨h.params, h.memory, h.counts, h.quiet, h.enabled, h.lines⟩

theorem between_latchPayload (d : List Byte) : Between (latchPayload d s) :=
  ⟨h.params, memoryOk_latchPayload d s h.memory, h.counts, h.quiet, h.enabled, h.lines⟩

/-- A primitive command begins at its own step (R145). -/
theorem sound_beginPrimitive (k : TStep) (hb : s.busy = true) (hk : kindOf s.opc = .primitive) (hne : k ≠ .noStep) :
    Sound (beginStep k .payload 0 s) :=
  sound_beginStep k .payload 0 h hb (by simp [hk, stepOfKind, hne]) (fun hw => absurd hw (by simp [hk]))
    (fun hr => absurd hr (by simp [hk, isReadKind])) (fun hr => absurd hr (by simp [hk, isReadKind]))

/-- `WRITE` begins with `start` (R152). -/
theorem sound_beginWrite (hb : s.busy = true) (hk : kindOf s.opc = .write) :
    Sound (beginStep .start .payload 0 s) :=
  sound_beginStep .start .payload 0 h hb (stepOfKind_start _) (fun _ hd => absurd hd (by simp))
    (fun hr => absurd hr (by simp [hk, isReadKind])) (fun hr => absurd hr (by simp [hk, isReadKind]))

/-- A read begins with `start`, a buffer-less one with the ReceiveBuffer emptied (R158, R159, R164). -/
theorem sound_beginRead (hb : s.busy = true) : Sound (beginStep .start .payload 0 (clearReceive s)) := by
  have hstep := stepOfKind_start (kindOf s.opc)
  cases hx : flagX s.opc
  · rw [clearReceive_buffer s hx]
    exact sound_beginStep .start .payload 0 (s := { s with avail := 0, cursor := 0, total := 0 })
      ⟨h.params, h.memory, ⟨rfl, Nat.zero_le _⟩, h.quiet, h.enabled, h.lines⟩ hb hstep
      (fun _ hd => absurd hd (by simp)) (fun _ hd => absurd hd (by simp)) fun _ _ => ⟨by simp, fun _ _ => rfl⟩
  · rw [clearReceive_caller s hx]
    exact sound_beginStep .start .payload 0 h hb hstep (fun _ hd => absurd hd (by simp))
      (fun _ hd => absurd hd (by simp)) (fun _ hf => absurd hx (by simp [hf]))

/-- A command that does not use the bus leaves `SEQ` at rest (R115, R175). -/
theorem sound_respond (b : Byte) (hseq : s.seq = SeqPtr.rest) : Sound (respond b s) :=
  ⟨h.params, h.memory, h.counts, hseq, fun hb => absurd hb (by simp), ⟨h.quiet, h.enabled⟩, h.lines⟩

end

/-- Every command that uses the bus begins in a sound state (R87, R145, R150). -/
theorem sound_begun (i : Instr) {s : State} (h : Between s) (hu : usesBus i = true) : Sound (begun i s) := by
  have latched (o : Op) : Between (latchOpc o s) := between_latchOpc h o
  have addressed (o : Op) (a : SlaveAddr) : Between (latchSla a (latchOpc o s)) := between_latchSla (latched o) a
  cases i
  case start | startR | rbyteN | rbyteA | stop =>
    exact sound_beginPrimitive (latched _) _ rfl (by simp [kindOf, Op.byte]) (by simp)
  case saddrW | saddrR => exact sound_beginPrimitive (addressed _ _) _ rfl (by simp [kindOf, Op.byte]) (by simp)
  case sbyte =>
    exact sound_beginPrimitive (between_latchPayload (latched _) _) _ rfl (by simp [kindOf, Op.byte]) (by simp)
  case write8 =>
    exact sound_beginWrite (between_latchPayload (between_latchSel8 (addressed _ _) _) _) rfl
      (by simp [kindOf, Op.byte])
  case write16 =>
    exact sound_beginWrite (between_latchPayload (between_latchSel16 (addressed _ _) _) _) rfl
      (by simp [kindOf, Op.byte])
  case read | readX =>
    exact sound_beginRead (between_latchCnt (addressed _ _) _) rfl
  case rread8 | rread8X =>
    exact sound_beginRead (between_latchCnt (between_latchSel8 (addressed _ _) _) _) rfl
  case rread16 | rread16X =>
    exact sound_beginRead (between_latchCnt (between_latchSel16 (addressed _ _) _) _) rfl
  case setto => simp [usesBus] at hu
  all_goals exact absurd hu (by decide)

/-- `RECV` moves one byte from the unread to the read ones (R44, R180). -/
theorem countsOk_consumed {s : State} (h : CountsOk s) (ha : s.avail ≠ 0) :
    CountsOk { s with cursor := s.cursor + 1, avail := s.avail - 1 } := by
  obtain ⟨hsum, hcap⟩ := h
  have hlt := s.total.isLt
  have hpos : 1 ≤ s.avail.toNat := Nat.one_le_iff_ne_zero.mpr fun h0 => ha (BitVec.eq_of_toNat_eq h0)
  have hc : (s.cursor + 1).toNat = s.cursor.toNat + 1 := by
    rw [BitVec.toNat_add]
    exact Nat.mod_eq_of_lt (by simp; omega)
  have hd : (s.avail - 1).toNat = s.avail.toNat - 1 := BitVec.toNat_sub_of_le hpos
  simp only [CountsOk, hc, hd]
  omega

theorem sound_runTurns {ts : List Turn} {s t : State} (hs : Sound s) (h : runTurns ts s = .next t) : Sound t := by
  refine runTurns_induct Sound (fun _ => True) ?_
    (fun _ _ hv => ⟨hv.params, hv.memory, hv.counts, hv.sequencer, hv.receive, hv.control, hv.lines⟩) ts s t
    (fun _ _ => trivial) hs h
  intro u v v' _ hv hb hstep
  cases u with
  | engine => exact sound_microStep hv hb hstep
  | env e =>
    cases hstep
    exact sound_envStep e hv

/-- Every host command keeps a sound state sound. -/
theorem sound_exec {i : Instr} {s t : State} (hs : Sound s) (hi : i.isCommand = true) (h : exec i s = .next t) :
    Sound t := by
  have rests (r : Ready s) : s.seq = SeqPtr.rest := by simpa only [SeqOk, r.1, if_true] using hs.sequencer
  have latched (r : Ready s) (o : Op) : Between (latchOpc o s) := between_latchOpc (between_of_ready hs r.1) o
  rcases exec_cases i s t h with ⟨w, hw, _⟩ | ⟨r, hu, h⟩ | ⟨r, ms, _, rfl⟩ | ⟨r, _, rfl⟩ | ⟨r, _, rfl⟩ |
    ⟨r, _, _, rfl⟩ | ⟨r, _, ha, _, rfl⟩
  · simp [encodeCtrl_isCommand hw] at hi
  · exact sound_runTurns (sound_begun i (between_of_ready hs r.1) hu) h
  · obtain ⟨hp, hm, hc, hq, he, hl⟩ := latched r .setto
    exact sound_respond (s := { latchOpc .setto s with timeout := ms }) ⟨hp, hm, hc, hq, he, hl⟩ 0 (rests r)
  · exact sound_respond (latched r .avail) _ (rests r)
  · exact sound_respond (latched r .getd) _ (rests r)
  · exact sound_respond (latched r .recv) _ (rests r)
  · obtain ⟨hp, hm, hc, hq, he, hl⟩ := latched r .recv
    exact sound_respond (s := { latchOpc .recv s with cursor := s.cursor + 1, avail := s.avail - 1 })
      ⟨hp, hm, countsOk_consumed hc ha, hq, he, hl⟩ _ (rests r)

/-! ### The step -/

theorem withSla_isCommand {a : Byte} {rest r : List Byte} {k : SlaveAddr → Instr} {i : Instr}
    (hk : ∀ sla, (k sla).isCommand = true) (h : withSla a rest k = .ok i r) : i.isCommand = true := by
  obtain ⟨_, rfl, _⟩ := (withSla_ok a rest r k i).mp h
  exact hk _

theorem isCommand_of_ok {r rest : List Byte} {j i : Instr} (hj : j.isCommand = true)
    (h : Packet.ok j r = .ok i rest) : i.isCommand = true := by
  cases h
  exact hj

/-- Each format is incomplete, or checks an address operand, or is accepted whatever its operands (R86, R87). -/
theorem decodeOperands_isCommand {o : Op} {bs rest : List Byte} {i : Instr} (h : decodeOperands o bs = .ok i rest) :
    i.isCommand = true := by
  unfold decodeOperands at h
  split at h
  all_goals first
    | exact Packet.noConfusion h
    | exact withSla_isCommand (fun _ => rfl) h
    | exact isCommand_of_ok rfl h
    | (split at h
       · exact Packet.noConfusion h
       · exact withSla_isCommand (fun _ => rfl) h)

/-- The packet decoder answers host commands only (R85, R87). -/
theorem decodePacket_isCommand {bs rest : List Byte} {i : Instr} (h : decodePacket bs = .ok i rest) :
    i.isCommand = true := by
  unfold decodePacket at h
  split at h
  · cases h
  · split at h
    · cases h
    · exact decodeOperands_isCommand h

theorem sound_engineTurn {s t : State} (hs : Sound s) (h : engineTurn s = .next t) : Sound t := by
  rcases engineTurn_cases s t h with ⟨hb, h⟩ | ⟨_, rfl⟩ | ⟨_, _, rfl⟩ | ⟨_, _, i, rest, hd, h⟩
  · exact sound_microStep hs hb h
  · exact hs
  · exact ⟨hs.params, hs.memory, hs.counts, hs.sequencer, hs.receive, hs.control, hs.lines⟩
  · exact sound_exec (s := { s with cmdq := rest })
      ⟨hs.params, hs.memory, hs.counts, hs.sequencer, hs.receive, hs.control, hs.lines⟩ (decodePacket_isCommand hd) h

/-- Settles O13, by the cases of a step: every turn of the engine and of the other agents keeps `Sound`. -/
theorem everyStepKeepsTheStateSound : Obligations.EveryStepKeepsTheStateSound := by
  intro s t hs h
  have unscripted (l : List Turn) : Sound { s with script := l } :=
    ⟨hs.params, hs.memory, hs.counts, hs.sequencer, hs.receive, hs.control, hs.lines⟩
  rcases step_cases s t h with ⟨l, _, h⟩ | ⟨e, l, _, rfl⟩
  · exact sound_engineTurn (unscripted l) h
  · exact sound_envStep e (unscripted l)

end Sys2Proof.Machine
end

section
/-! PROOFS. From a sound state the machine never stops (20_memory R63): each place where a step could fault or refuse
needs a state that `Sound` rules out. -/
namespace Sys2Proof.Machine

/-! ### The engine's micro-phases -/

/-- A buffer-less read receives no more bytes than the ReceiveBuffer holds (R157). -/
theorem countOf_le_rxcap {s : State} (hx : flagX s.opc = false) : countOf s ≤ s.cfg.rxcap := by
  simp [countOf, effectiveCount, hx]

/-- No micro-phase stops: the index of a received byte is below the count, hence inside `RXBUF` (R63, R151). -/
theorem microStep_answers {s : State} (h : Sound s) (hb : s.busy = true) : ∃ t, microStep s = .next t := by
  cases hp : currentPrim s with
  | none => exact ⟨s, by simp [microStep, hp]⟩
  | some p =>
    by_contra hstop
    obtain ⟨hm, hx, hout⟩ := microStep_stops s (not_exists.mp hstop)
    obtain ⟨hk, ht⟩ := tstep_of_rdData h hb hp hm
    have hidx : s.seq.idx.toNat < countOf s := (h.runningSeq hb).receive hk ht
    have hcap := countOf_le_rxcap hx
    omega

/-! ### The commands -/

/-- A turn taken while a command runs answers a sound state. -/
theorem turnStep_answers (u : Turn) {s : State} (h : Sound s) (hb : s.busy = true) :
    ∃ t, turnStep u s = .next t ∧ Sound t := by
  cases u with
  | engine =>
    obtain ⟨t, ht⟩ := microStep_answers h hb
    exact ⟨t, ht, sound_microStep h hb ht⟩
  | env e => exact ⟨envStep e s, rfl, sound_envStep e h⟩

theorem runTurns_answers (ts : List Turn) {s : State} (h : Sound s) : ∃ t, runTurns ts s = .next t := by
  induction ts generalizing s with
  | nil => exact ⟨_, runTurns_nil s⟩
  | cons u us ih =>
    cases hb : s.busy with
    | false => exact ⟨_, runTurns_ended (u :: us) s hb⟩
    | true =>
      obtain ⟨v, hv, hsound⟩ := turnStep_answers u h hb
      obtain ⟨t, ht⟩ := ih hsound
      exact ⟨t, by simp [runTurns, hb, hv, ht]⟩

theorem runLocal_ready (o : Op) (k : State → Result) {s : State} (r : Ready s) :
    runLocal o k s = k (latchOpc o s) := by
  simp [runLocal, admitCommand, r.1, r.2]

/-- Where bytes are left to consume, the next one lies inside `RXBUF` (R47, R63). -/
theorem cursor_lt_rxcap {s : State} (h : CountsOk s) (ha : s.avail ≠ 0) : s.cursor.toNat < s.cfg.rxcap := by
  obtain ⟨hsum, hcap⟩ := h
  have hpos : s.avail.toNat ≠ 0 := fun h0 => ha (BitVec.eq_of_toNat_eq h0)
  omega

theorem execRecv_answers {s : State} (h : CountsOk s) (r : Ready s) : ∃ t, execRecv s = .next t := by
  unfold execRecv
  rw [runLocal_ready _ _ r]
  by_cases ha : s.avail = 0
  · exact ⟨_, if_pos ha⟩
  · exact ⟨_, (if_neg ha).trans (if_pos (cursor_lt_rxcap h ha))⟩

/-- A host command taken while none runs answers a next state. -/
theorem exec_answers {i : Instr} {s : State} (h : Sound s) (r : Ready s) (hi : i.isCommand = true) :
    ∃ t, exec i s = .next t := by
  cases hu : usesBus i with
  | true =>
    rw [exec_ready i s hu r]
    exact runTurns_answers _ (sound_begun i (between_of_ready h r.1) hu)
  | false =>
    cases i
    case setto | avail | getd =>
      simp only [exec, execSetto, execAvail, execGetd, runLocal_ready _ _ r]
      exact ⟨_, rfl⟩
    case recv => exact execRecv_answers h.counts r
    case armStart | armSend | armRecvAck | armRecvNack | armStop | ctrlDisable | ctrlIdle =>
      exact absurd hi (by decide)
    all_goals exact absurd hu (by simp [usesBus])

/-! ### The step -/

/-- The engine takes a command only from a whole legal packet and with no command error (R28, R87). -/
theorem fetch_command {s : State} {i : Instr} {rest : List Byte} (h : fetch s = .command i rest) :
    s.cmderr = false ∧ decodePacket s.cmdq = .ok i rest := by
  unfold fetch at h
  split at h
  · cases h
  · rename_i hc
    refine ⟨by simpa using hc, ?_⟩
    cases hd : decodePacket s.cmdq <;> rw [hd] at h <;> cases h
    rfl

theorem engineTurn_answers {s : State} (h : Sound s) : ∃ t, engineTurn s = .next t := by
  cases hb : s.busy with
  | true =>
    rw [engineTurn_busy s hb]
    exact microStep_answers h hb
  | false =>
    unfold engineTurn
    rw [if_neg (by simp [hb])]
    cases hf : fetch s with
    | idle => exact ⟨s, rfl⟩
    | illegal => exact ⟨commandError s, rfl⟩
    | command i rest =>
      obtain ⟨hc, hd⟩ := fetch_command hf
      exact exec_answers (s := { s with cmdq := rest })
        ⟨h.params, h.memory, h.counts, h.sequencer, h.receive, h.control, h.lines⟩ ⟨hb, hc⟩ (decodePacket_isCommand hd)

theorem step_answers {s : State} (h : Sound s) : ∃ t, step s = .next t := by
  have unscripted (l : List Turn) : Sound { s with script := l } :=
    ⟨h.params, h.memory, h.counts, h.sequencer, h.receive, h.control, h.lines⟩
  cases hs : s.script with
  | nil =>
    rw [step_empty s hs]
    exact engineTurn_answers h
  | cons u l =>
    cases u with
    | engine =>
      rw [step_engine s l hs]
      exact engineTurn_answers (unscripted l)
    | env e => exact ⟨_, step_env s e l hs⟩

/-- Settles O14: the step answers, and what it answers is sound by O13. -/
theorem soundStateNeverStops : Obligations.SoundStateNeverStops := by
  intro s hs
  obtain ⟨t, ht⟩ := step_answers hs
  exact ⟨t, ht, everyStepKeepsTheStateSound s t hs ht⟩

end Sys2Proof.Machine
end

section
/-! PROOFS. The payload latch `TXBUF`, `TXLEN` (10_state R21, 20_memory R65): only the beginning of a command with a
payload writes it. -/
namespace Sys2Proof.Machine

/-- Only `WRITE` and `SBYTE` latch a payload (R65, R86; log entry 10). -/
theorem payloadUntouched_begun (i : Instr) (s : State) (h8 : ∀ a e d, i ≠ .write8 a e d)
    (h16 : ∀ a e d, i ≠ .write16 a e d) (hb : ∀ b, i ≠ .sbyte b) : PayloadUntouched s (begun i s) := by
  cases i
  case write8 a e d => exact absurd rfl (h8 a e d)
  case write16 a e d => exact absurd rfl (h16 a e d)
  case sbyte b => exact absurd rfl (hb b)
  case read | readX | rread8 | rread16 | rread8X | rread16X =>
    simp only [begun, clearReceive]
    split <;> simp [PayloadUntouched]
  all_goals simp [PayloadUntouched, begun]

theorem payloadUntouched_microStep {s v v' : State} (h : PayloadUntouched s v) (hs : microStep v = .next v') :
    PayloadUntouched s v' := by
  obtain ⟨hbuf, hlen⟩ := h
  obtain ⟨hk, -, -⟩ := microStep_keeps v v' hs
  exact ⟨hk.txbuf.trans hbuf, hk.txlen.trans hlen⟩

theorem payloadUntouched_envStep {s v : State} (e : EnvEvent) (he : e ≠ .rst) (h : PayloadUntouched s v) :
    PayloadUntouched s (envStep e v) := by
  obtain ⟨hbuf, hlen⟩ := h
  have hk := envStep_keeps e v he
  exact ⟨hk.txbuf.trans hbuf, hk.txlen.trans hlen⟩

/-- Settles O20, by induction over the turns with `PayloadUntouched` as the invariant. -/
theorem onlyPayloadCommandsTouchThePayloadLatch : Obligations.OnlyPayloadCommandsTouchThePayloadLatch := by
  intro i s t h8 h16 hb hr h
  have untouched : PayloadUntouched s t := by
    rcases exec_cases i s t h with ⟨w, _, rfl⟩ | ⟨_, _, h⟩ | ⟨_, ms, _, rfl⟩ | ⟨_, _, rfl⟩ | ⟨_, _, rfl⟩ |
      ⟨_, _, _, rfl⟩ | ⟨_, _, _, _, rfl⟩
    · exact ⟨ctrlWrite_txbuf w s, ctrlWrite_txlen w s⟩
    · exact runTurns_induct_noReset (PayloadUntouched s) (fun _ _ hv _ => payloadUntouched_microStep hv)
        (fun e _ he hv _ => payloadUntouched_envStep e he hv) (fun _ _ hv => hv) hr
        (payloadUntouched_begun i s h8 h16 hb) h
    all_goals exact ⟨rfl, rfl⟩
  obtain ⟨hbuf, hlen⟩ := untouched
  exact ⟨fun k => by rw [hbuf], hlen⟩

end Sys2Proof.Machine
end

section
/-! PROOFS. The bytes of a wide write (20_memory R69, 30_encoding R113, 41_transactions R170). -/
namespace Sys2Proof

@[simp] theorem length_beBytes (k v : Nat) : (beBytes k v).length = k := by
  induction k with
  | zero => rfl
  | succ k ih => simp [beBytes, ih]

/-- The `i`-th of `k` bytes, counted from the most significant, is digit `k - 1 - i` to the base 256 (R69). -/
theorem getElem?_beBytes {k i : Nat} (v : Nat) (hi : i < k) :
    (beBytes k v)[i]? = some (BitVec.ofNat 8 (v / 256 ^ (k - 1 - i))) := by
  induction k generalizing i with
  | zero => omega
  | succ k ih =>
    cases i with
    | zero => rfl
    | succ i =>
      have hdigit : k + 1 - 1 - (i + 1) = k - 1 - i := by omega
      rw [hdigit]
      exact ih (by omega)

/-- A digit of a value to the base 256 is a byte of the value (R69). -/
theorem ofNat_digit_eq_extractLsb' {w : Nat} (v : BitVec w) (j : Nat) :
    BitVec.ofNat 8 (v.toNat / 256 ^ j) = v.extractLsb' (8 * j) 8 := by
  have hpow : 256 ^ j = 2 ^ (8 * j) := by rw [Nat.pow_mul]
  rw [hpow, ← Nat.shiftRight_eq_div_pow]
  rfl

/-- Settles O56: both forms carry `beBytes`, whose `i`-th entry is the value's byte `k - 1 - i`. -/
theorem wideWritesDecomposeMostSignificantFirst : Obligations.WideWritesDecomposeMostSignificantFirst := by
  intro k sla e e16 v
  refine ⟨beBytes k v.toNat, rfl, rfl, length_beBytes k v.toNat, fun i hi => ?_⟩
  rw [getElem?_beBytes v.toNat hi, ofNat_digit_eq_extractLsb']

end Sys2Proof
end

section
/-! PROOFS. The encodings: the packets of the host commands read back (30_encoding R86 to R89), what the packet decoder
rejects (R108, R109), and the control-register values (R97). -/
namespace Sys2Proof

/-! ### One operand -/

/-- An encoded address operand is accepted (R109). -/
theorem withSla_slaByte (a : SlaveAddr) (rest : List Byte) (k : SlaveAddr → Instr) :
    withSla (slaByte a) rest k = .ok (k a) rest := by
  rw [withSla_ok, slaByte_setWidth]
  exact ⟨slaByte_reserved a, rfl, rfl⟩

/-- Only an encoded address operand is accepted (R109). -/
theorem slaByte_of_withSla {a : Byte} {rest r : List Byte} {k : SlaveAddr → Instr} {i : Instr}
    (h : withSla a rest k = .ok i r) : ∃ sla, a = slaByte sla ∧ i = k sla ∧ rest = r := by
  obtain ⟨h7, hi, hr⟩ := (withSla_ok a rest r k i).mp h
  exact ⟨a.setWidth 7, (slaByte_of_reserved_clear a h7).symm, hi, hr.symm⟩

/-- An address operand with bit 7 set is rejected (R109). -/
theorem withSla_reject {a : Byte} (h : a.getLsbD 7 = true) (rest : List Byte) (k : SlaveAddr → Instr) :
    withSla a rest k = .reject (.reservedOperandBit a) := if_pos h

/-- The opcode byte of a form leads to the operands of that form (R87). -/
theorem decodePacket_byte (o : Op) (operands : List Byte) :
    decodePacket (o.byte :: operands) = decodeOperands o operands := by
  simp only [decodePacket, opOf_byte]

/-! ### The packets of the commands -/

/-- The one-byte length field holds the length of a payload it can count (R86). -/
theorem toNat_ofNat_length {d : List Byte} (h : d.length ≤ 255) : (BitVec.ofNat 8 d.length).toNat = d.length := by
  rw [BitVec.toNat_ofNat]
  omega

/-- The operands of `WRITE`, once the payload is there (R86, R87): the payload is cut off and the address checked. -/
theorem decodeOperands_write8 (a : SlaveAddr) (e : Byte) {d : List Byte} (hd : d.length ≤ 255) (rest : List Byte) :
    decodeOperands .write8 (slaByte a :: e :: BitVec.ofNat 8 d.length :: (d ++ rest)) = .ok (.write8 a e d) rest := by
  simp [decodeOperands, toNat_ofNat_length hd, withSla_slaByte]

theorem decodeOperands_write16 (a : SlaveAddr) (e : Half) {d : List Byte} (hd : d.length ≤ 255) (rest : List Byte) :
    decodeOperands .write16 (slaByte a :: hiByte e :: loByte e :: BitVec.ofNat 8 d.length :: (d ++ rest)) =
      .ok (.write16 a e d) rest := by
  simp [decodeOperands, toNat_ofNat_length hd, withSla_slaByte, hiByte_append_loByte]

/-- The packet of a well-formed command decodes to the command, whatever follows it (R86, R87). -/
theorem decodePacket_encodePacket {i : Instr} (hw : i.wf = true) (hc : i.isCommand = true) (rest : List Byte) :
    decodePacket (encodePacket i ++ rest) = .ok i rest := by
  cases i
  case armStart | armSend | armRecvAck | armRecvNack | armStop | ctrlDisable | ctrlIdle => exact absurd hc (by decide)
  case start => exact decodePacket_byte .start rest
  case startR => exact decodePacket_byte .startR rest
  case rbyteN => exact decodePacket_byte .rbyteN rest
  case rbyteA => exact decodePacket_byte .rbyteA rest
  case stop => exact decodePacket_byte .stop rest
  case getd => exact decodePacket_byte .getd rest
  case avail => exact decodePacket_byte .avail rest
  case recv => exact decodePacket_byte .recv rest
  case sbyte b => exact decodePacket_byte .sbyte (b :: rest)
  case setto ms =>
    refine (decodePacket_byte .setto (hiByte ms :: loByte ms :: rest)).trans ?_
    rw [decodeOperands, hiByte_append_loByte]
  case saddrW a => exact (decodePacket_byte .saddrW _).trans (withSla_slaByte a rest .saddrW)
  case saddrR a => exact (decodePacket_byte .saddrR _).trans (withSla_slaByte a rest .saddrR)
  case read a c => exact (decodePacket_byte .read _).trans (withSla_slaByte a rest (.read · c))
  case readX a c => exact (decodePacket_byte .readX _).trans (withSla_slaByte a rest (.readX · c))
  case rread8 a e c => exact (decodePacket_byte .rread8 _).trans (withSla_slaByte a rest (.rread8 · e c))
  case rread8X a e c => exact (decodePacket_byte .rread8X _).trans (withSla_slaByte a rest (.rread8X · e c))
  case rread16 a e c =>
    refine (decodePacket_byte .rread16 (slaByte a :: hiByte e :: loByte e :: c :: rest)).trans ?_
    rw [decodeOperands, withSla_slaByte, hiByte_append_loByte]
  case rread16X a e c =>
    refine (decodePacket_byte .rread16X (slaByte a :: hiByte e :: loByte e :: c :: rest)).trans ?_
    rw [decodeOperands, withSla_slaByte, hiByte_append_loByte]
  case write8 a e d =>
    exact (decodePacket_byte .write8 _).trans (decodeOperands_write8 a e (of_decide_eq_true hw) rest)
  case write16 a e d =>
    exact (decodePacket_byte .write16 _).trans (decodeOperands_write16 a e (of_decide_eq_true hw) rest)

/-- The payload of an accepted `WRITE` is as long as the length field says, and its address operand was accepted
(R86, R87). -/
theorem payload_of_accepted {a n : Byte} {bs rest : List Byte} {k : SlaveAddr → Instr} {i : Instr}
    (h : (if bs.length < n.toNat then .wait else withSla a (bs.drop n.toNat) k) = Packet.ok i rest) :
    (bs.take n.toNat).length ≤ 255 ∧ BitVec.ofNat 8 (bs.take n.toNat).length = n ∧
      ∃ sla, a = slaByte sla ∧ i = k sla ∧ bs.drop n.toNat = rest := by
  split at h
  case isTrue => cases h
  case isFalse hn =>
    rw [List.length_take_of_le (Nat.le_of_not_lt hn), BitVec.ofNat_toNat, BitVec.setWidth_eq]
    exact ⟨by omega, rfl, slaByte_of_withSla h⟩

/-- The bytes a form accepts are the packet of the instruction it answers, then the rest (R86, R109). -/
theorem encodePacket_of_decodeOperands {o : Op} {bs rest : List Byte} {i : Instr}
    (h : decodeOperands o bs = .ok i rest) : i.wf = true ∧ o.byte :: bs = encodePacket i ++ rest := by
  cases o
  case start | startR | rbyteN | rbyteA | stop | getd | avail | recv =>
    cases h
    exact ⟨rfl, rfl⟩
  case sbyte =>
    match bs, h with
    | _ :: _, rfl => exact ⟨rfl, rfl⟩
  case setto =>
    match bs, h with
    | _ :: _ :: _, rfl => exact ⟨rfl, by rw [encodePacket, hiByte_append, loByte_append]; rfl⟩
  case saddrW | saddrR =>
    match bs, h with
    | _ :: _, h =>
      obtain ⟨sla, rfl, rfl, rfl⟩ := slaByte_of_withSla h
      exact ⟨rfl, rfl⟩
  case read | readX =>
    match bs, h with
    | _ :: _ :: _, h =>
      rw [decodeOperands] at h
      obtain ⟨sla, rfl, rfl, rfl⟩ := slaByte_of_withSla h
      exact ⟨rfl, rfl⟩
  case rread8 | rread8X =>
    match bs, h with
    | _ :: _ :: _ :: _, h =>
      rw [decodeOperands] at h
      obtain ⟨sla, rfl, rfl, rfl⟩ := slaByte_of_withSla h
      exact ⟨rfl, rfl⟩
  case rread16 | rread16X =>
    match bs, h with
    | _ :: _ :: _ :: _ :: _, h =>
      rw [decodeOperands] at h
      obtain ⟨sla, rfl, rfl, rfl⟩ := slaByte_of_withSla h
      exact ⟨rfl, by rw [encodePacket, hiByte_append, loByte_append]; rfl⟩
  case write8 =>
    match bs, h with
    | _ :: _ :: n :: bs, h =>
      rw [decodeOperands] at h
      obtain ⟨hle, hlen, sla, rfl, rfl, rfl⟩ := payload_of_accepted h
      exact ⟨decide_eq_true hle, by rw [encodePacket, hlen]; simp [Op.byte]⟩
  case write16 =>
    match bs, h with
    | _ :: _ :: _ :: n :: bs, h =>
      rw [decodeOperands] at h
      obtain ⟨hle, hlen, sla, rfl, rfl, rfl⟩ := payload_of_accepted h
      exact ⟨decide_eq_true hle, by rw [encodePacket, hlen, hiByte_append, loByte_append]; simp [Op.byte]⟩

/-- An instruction is taken only from its own packet (R86, R87). -/
theorem encodePacket_of_decodePacket {bs rest : List Byte} {i : Instr} (h : decodePacket bs = .ok i rest) :
    i.wf = true ∧ bs = encodePacket i ++ rest := by
  match bs, h with
  | b :: bs, h =>
    cases ho : opOf b with
    | none => simp [decodePacket, ho] at h
    | some o =>
      obtain rfl := byte_of_opOf b o ho
      exact encodePacket_of_decodeOperands ((decodePacket_byte o bs).symm.trans h)

/-- Settles O2: the packet of a well-formed command decodes to it, and only its own packet does. -/
theorem decoderTakesExactlyThePacketsOfCommands : Obligations.DecoderTakesExactlyThePacketsOfCommands := by
  intro bs rest i
  constructor
  · intro h
    obtain ⟨hw, hbs⟩ := encodePacket_of_decodePacket h
    exact ⟨hw, Machine.decodePacket_isCommand h, hbs⟩
  · rintro ⟨hw, hc, rfl⟩
    exact decodePacket_encodePacket hw hc rest

/-- A control-register write is read back from its value, once the direction is known (R97). -/
theorem decodeCtrl_of_encodeCtrl {i : Instr} {w : Ctrl} (h : encodeCtrl i = some w) :
    decodeCtrl (decide (i = .armRecvNack)) w = some i := by
  cases i <;> cases h <;> rfl

/-- An instruction without a control-register value is a host command (R85, R97). -/
theorem isCommand_of_encodeCtrl_none {i : Instr} (h : encodeCtrl i = none) : i.isCommand = true := by
  cases i
  case armStart | armSend | armRecvAck | armRecvNack | armStop | ctrlDisable | ctrlIdle => cases h
  all_goals rfl

/-- Settles O1, by the two kinds of encoding: a control-register value, or a packet with nothing after it. -/
theorem decodeOfEncodeIsTheInstruction : Obligations.DecodeOfEncodeIsTheInstruction := by
  intro i hw
  cases hc : encodeCtrl i with
  | some w =>
    rw [encode, hc]
    exact decodeCtrl_of_encodeCtrl hc
  | none =>
    have hp := decodePacket_encodePacket hw (isCommand_of_encodeCtrl_none hc) []
    rw [List.append_nil] at hp
    rw [encode, hc, decode, hp]

/-! ### The first byte -/

/-- The form a first byte selects is one of the rows of R89. -/
theorem opOf_isSome_eq_familySelects (b : Byte) :
    (opOf b).isSome = familyRows.any fun row => familySelects row b := by
  revert b
  decide

/-- Settles O3, by evaluation over the 256 bytes. -/
theorem firstByteIsLegalExactlyWhenARowSelectsIt : Obligations.FirstByteIsLegalExactlyWhenARowSelectsIt :=
  ⟨opOf_isSome_eq_familySelects, by decide, by decide⟩

/-- Settles O4, by evaluation of the decoders on each word. -/
theorem wordsWrittenFromTheSpecDecodeRight : Obligations.WordsWrittenFromTheSpecDecodeRight := by
  unfold Obligations.WordsWrittenFromTheSpecDecodeRight
  decide

/-- A first byte that selects no form is rejected whatever follows (R108). -/
theorem decodePacket_reserved {b : Byte} (h : opOf b = none) (rest : List Byte) :
    decodePacket (b :: rest) = .reject (.reservedOpcode b) := by
  simp only [decodePacket, h]

/-- Settles O8: a reserved first byte selects no form; a complete packet of each form with an address operand comes to
the check of that operand. -/
theorem reservedBytesAreRejected : Obligations.ReservedBytesAreRejected := by
  refine ⟨fun b rest h => ?_, ?_, ?_, ?_, ?_, ?_, ?_⟩
  · rw [← opOf_isSome_eq_familySelects, Option.isSome_eq_false_iff, Option.isNone_iff_eq_none] at h
    exact decodePacket_reserved h rest
  · rintro op a rest ha (rfl | rfl)
    · exact (decodePacket_byte .saddrW _).trans (withSla_reject ha rest .saddrW)
    · exact (decodePacket_byte .saddrR _).trans (withSla_reject ha rest .saddrR)
  · rintro op a c rest ha (rfl | rfl)
    · exact (decodePacket_byte .read _).trans (withSla_reject ha rest (.read · c))
    · exact (decodePacket_byte .readX _).trans (withSla_reject ha rest (.readX · c))
  · rintro op a e c rest ha (rfl | rfl)
    · exact (decodePacket_byte .rread8 _).trans (withSla_reject ha rest (.rread8 · e c))
    · exact (decodePacket_byte .rread8X _).trans (withSla_reject ha rest (.rread8X · e c))
  · rintro op a eh el c rest ha (rfl | rfl)
    · exact (decodePacket_byte .rread16 _).trans (withSla_reject ha rest (.rread16 · (eh ++ el) c))
    · exact (decodePacket_byte .rread16X _).trans (withSla_reject ha rest (.rread16X · (eh ++ el) c))
  · intro a e n rest ha hn
    refine (decodePacket_byte .write8 (a :: e :: n :: rest)).trans ?_
    rw [decodeOperands, if_neg (Nat.not_lt.mpr hn), withSla_reject ha]
  · intro a eh el n rest ha hn
    refine (decodePacket_byte .write16 (a :: eh :: el :: n :: rest)).trans ?_
    rw [decodeOperands, if_neg (Nat.not_lt.mpr hn), withSla_reject ha]

end Sys2Proof
end

section
/-! PROOFS. The engine's turn with no command running (30_encoding R87, R110), and the control-register writes as
instructions and inside the engine (R95, R97, 40_primitives R121, 60_exceptions R230). -/
namespace Sys2Proof.Machine

/-! ### The fetch -/

section
variable {s : State} (hb : s.busy = false) (hc : s.cmderr = false)
include hb hc

/-- A whole legal packet is executed without its bytes (R87). -/
theorem engineTurn_of_ok {i : Instr} {rest : List Byte} (hd : decodePacket s.cmdq = .ok i rest) :
    engineTurn s = exec i { s with cmdq := rest } := by
  simp [engineTurn, fetch, hb, hc, hd]

/-- An illegal packet sets the error flag (R110; log entry 12). -/
theorem engineTurn_of_reject {r : Reject} (hd : decodePacket s.cmdq = .reject r) :
    engineTurn s = .next (commandError s) := by
  simp [engineTurn, fetch, hb, hc, hd]

/-- A packet that is not complete waits (R87). -/
theorem engineTurn_of_wait (hd : decodePacket s.cmdq = .wait) : engineTurn s = .next s := by
  simp [engineTurn, fetch, hb, hc, hd]

end

/-- Settles O5: the engine's turn, given by the script or by its end, takes the packet and executes it. -/
theorem stepRunsTheDecodedInstruction : Obligations.StepRunsTheDecodedInstruction := by
  intro s i rest hb hc hd
  refine ⟨fun hs => ?_, fun ts hs => ?_⟩
  · rw [step_empty s hs]
    exact engineTurn_of_ok hb hc hd
  · rw [step_engine s ts hs]
    exact engineTurn_of_ok (s := { s with script := ts }) hb hc hd

/-- Settles O7: the engine's turn on a rejected and on an incomplete packet. -/
theorem illegalCommandSetsOnlyTheErrorFlag : Obligations.IllegalCommandSetsOnlyTheErrorFlag := by
  intro s hb hc hm
  rw [step_of_engineMoves s hm]
  exact ⟨fun r hd => engineTurn_of_reject (s := { s with script := s.script.tail }) hb hc hd,
    fun hd => engineTurn_of_wait (s := { s with script := s.script.tail }) hb hc hd⟩

/-! ### The control-register writes -/

/-- The write each primitive arms with, executed as an instruction (R97). -/
theorem exec_armInstr (p : Prim) (s : State) : exec (armInstr p) s = .next (ctrlWrite (armWord p) s) := by
  refine exec_ctrl (armInstr p) (armWord p) s ?_
  rcases p with _ | _ | _ | (_ | _) | _ <;> rfl

/-- Settles O6: each of the three micro-phases is the write of R97 and the move to the next micro-phase. -/
theorem engineExecutesTheControlWrites : Obligations.EngineExecutesTheControlWrites := by
  intro s p ts hb hp hs
  rw [step_engine s ts hs, engineTurn_busy { s with script := ts } hb]
  exact ⟨fun hm => ⟨_, exec_armInstr p _, microStep_arm { s with script := ts } p hp hm⟩,
    fun hm => ⟨_, rfl, microStep_lock0 { s with script := ts } p hp hm⟩,
    fun hm => ⟨_, rfl, microStep_lock1 { s with script := ts } p hp hm⟩⟩

/-- `CTRL` after an arm: the four enable bits of the value, with the flag cleared (R95). -/
theorem armedCtrl_bits (w : Ctrl) :
    ctrlEN (armedCtrl w) = w.getLsbD 0 ∧ ctrlEA (armedCtrl w) = w.getLsbD 1 ∧ ctrlSTA (armedCtrl w) = w.getLsbD 2 ∧
      ctrlSTO (armedCtrl w) = w.getLsbD 3 ∧ ctrlCF (armedCtrl w) = false := by
  revert w
  decide

/-- `CTRL` after an enabled write that is no arm: the four enable bits of the value, with the flag kept (R95, R202). -/
theorem idleCtrl_bits (w c : Ctrl) :
    ctrlEN (idleCtrl w c) = w.getLsbD 0 ∧ ctrlEA (idleCtrl w c) = w.getLsbD 1 ∧
      ctrlSTA (idleCtrl w c) = w.getLsbD 2 ∧ ctrlSTO (idleCtrl w c) = w.getLsbD 3 ∧
      ctrlCF (idleCtrl w c) = ctrlCF c := by
  revert w c
  decide

/-- Settles O23, by the three kinds of write: bit 0 tells a disable, and bit 4 an arm, from the others. -/
theorem controlWriteFollowsItsBits : Obligations.ControlWriteFollowsItsBits := by
  intro w s
  rcases ctrlWrite_cases w s with ⟨hen, h⟩ | ⟨hen, hcf, h⟩ | ⟨hen, hcf, h⟩
  · refine ⟨fun _ => ?_, fun h0 => ?_, ctrlWrite_data w s⟩
    · rw [h]
      exact ⟨rfl, rfl, rfl, rfl, rfl, rfl⟩
    · exact nomatch hen.symm.trans h0
  · refine ⟨fun h0 => (nomatch h0.symm.trans hen), fun _ => ?_, ctrlWrite_data w s⟩
    obtain ⟨h0, h1, h2, h3, h4⟩ := armedCtrl_bits w
    rw [h]
    exact ⟨h0.trans hen, h1, h2, h3, fun _ => ⟨h4, rfl⟩, fun hf => (nomatch hf.symm.trans hcf)⟩
  · refine ⟨fun h0 => (nomatch h0.symm.trans hen), fun _ => ?_, ctrlWrite_data w s⟩
    obtain ⟨h0, h1, h2, h3, h4⟩ := idleCtrl_bits w s.ctrl
    rw [h]
    exact ⟨h0.trans hen, h1, h2, h3, fun ht => (nomatch hcf.symm.trans ht),
      fun _ => ⟨h4, rfl, rfl, rfl⟩⟩

/-- The write each primitive arms with is an arm in every state (R95, R97). -/
theorem exec_armInstr_launches (p : Prim) (s : State) :
    exec (armInstr p) s = .next (arm (armWord p) (emit (.ctrl (armWord p)) s)) := by
  rw [exec_armInstr, ctrlWrite_armWord]

/-- Settles O24: each of the five is the arm of a primitive. -/
theorem armWritesLaunchTheirActions : Obligations.ArmWritesLaunchTheirActions := by
  intro s
  simp only [List.forall_mem_cons]
  exact ⟨exec_armInstr_launches .start s, exec_armInstr_launches .byte s, exec_armInstr_launches (.recv true) s,
    exec_armInstr_launches (.recv false) s, exec_armInstr_launches .stop s, List.forall_mem_nil _⟩

/-- Settles O25: the two writes of lockup recovery as instructions. -/
theorem disableAndIdleWritesDoWhatTheyName : Obligations.DisableAndIdleWritesDoWhatTheyName := by
  intro s
  constructor
  · rw [exec_ctrl .ctrlDisable 0b00000 s rfl, ctrlWrite_disable]
    rfl
  · rw [exec_ctrl .ctrlIdle 0b00011 s rfl, ctrlWrite_idle]
    rfl

end Sys2Proof.Machine
end

section
/-! PROOFS. One turn of the engine in `M_POLL` and in `M_STATUS` (40_primitives R123, R124, R126, R131 to R140). -/
namespace Sys2Proof.Machine

/-! ### The poll iteration (R123, R124) -/

/-- An action that has completed is answered first, whatever the clock says (R123). -/
theorem phasePoll_completed {p : Prim} {s : State} (h : pollDone p s.ctrl = true) :
    phasePoll p s = afterCompletion p s := by
  simp [phasePoll, pollIteration, h]

theorem phasePoll_timedOut {p : Prim} {s : State} (h : pollDone p s.ctrl = false) (h0 : s.timeout ≠ 0)
    (hle : s.timeout.toNat ≤ (s.now - s.t0).toNat) : phasePoll p s = takeFailure .timeout s := by
  have hpoll : pollIteration false s.timeout s.now s.t0 = .timedOut :=
    (if_neg Bool.false_ne_true).trans (if_pos ⟨h0, hle⟩)
  rw [phasePoll, h, hpoll]

theorem phasePoll_continues {p : Prim} {s : State} (h : pollDone p s.ctrl = false)
    (hw : s.timeout = 0 ∨ (s.now - s.t0).toNat < s.timeout.toNat) : phasePoll p s = s := by
  have hpoll : pollIteration false s.timeout s.now s.t0 = .continue :=
    (if_neg Bool.false_ne_true).trans (if_neg fun ⟨h0, hle⟩ => hw.elim h0 hle.not_gt)
  rw [phasePoll, h, hpoll]

/-- A completed action other than a stop has a status to read (R121, R143). -/
theorem afterCompletion_of_ne_stop {p : Prim} (hp : p ≠ .stop) (s : State) :
    afterCompletion p s = gotoPhase .status s := by
  cases p
  case stop => exact absurd rfl hp
  all_goals rfl

/-- The engine's turn while a command polls is one poll iteration. -/
theorem step_of_polling {s : State} {p : Prim} (hb : s.busy = true) (hm : EngineMoves s)
    (hp : currentPrim s = some p) (hpoll : s.seq.mph = .poll) :
    step s = .next (phasePoll p { s with script := s.script.tail }) := by
  rw [step_of_engineMoves s hm, engineTurn_busy { s with script := s.script.tail } hb]
  exact microStep_poll { s with script := s.script.tail } p hp hpoll

/-- Settles O36, by the three answers of a poll iteration. -/
theorem pollIterationFollowsItsOrder : Obligations.PollIterationFollowsItsOrder := by
  intro s p hb hm hp hpoll
  rw [step_of_polling hb hm hp hpoll]
  refine ⟨fun hd hne => ?_, fun hd heq => ?_, fun hd h0 hle => ?_, fun hd hw => ?_⟩
  · rw [phasePoll_completed (s := { s with script := s.script.tail }) hd, afterCompletion_of_ne_stop hne]
    rfl
  · subst heq
    rw [phasePoll_completed (s := { s with script := s.script.tail }) hd]
    rfl
  · rw [phasePoll_timedOut (s := { s with script := s.script.tail }) hd h0 hle]
    rfl
  · rw [phasePoll_continues (s := { s with script := s.script.tail }) hd hw]

/-- One step of the engine or the clock, with the threshold 0 and no completion, changes at most `NOW` (R124). -/
theorem step_of_hanging {s : State} {p : Prim} (hb : s.busy = true) (hp : currentPrim s = some p)
    (hpoll : s.seq.mph = .poll) (h0 : s.timeout = 0) (hd : pollDone p s.ctrl = false)
    (hs : ∀ t ∈ s.script, t = .engine ∨ t = .env .tick) :
    ∃ n, step s = .next { s with now := n, script := s.script.tail } := by
  have polls (hm : EngineMoves s) : ∃ n, step s = .next { s with now := n, script := s.script.tail } :=
    ⟨s.now, by rw [step_of_polling hb hm hp hpoll,
      phasePoll_continues (s := { s with script := s.script.tail }) hd (.inl h0)]⟩
  cases hl : s.script with
  | nil => exact hl ▸ polls (.inl hl)
  | cons u us =>
    rcases hs u (by simp [hl]) with rfl | rfl
    · exact hl ▸ polls (.inr (by simp [hl]))
    · exact ⟨s.now + 1, step_env s .tick us hl⟩

/-- A run that begins with a step that answers. -/
theorem core_run_succ {s t : State} (h : step s = .next t) (k : Nat) :
    Sys2Proof.core.run (k + 1) s = Sys2Proof.core.run k t := by
  have hcore : Sys2Proof.core.step s = .next t := h
  simp only [Host.Core.run, hcore]

/-- Settles O37, by induction on the number of steps: every one of them finds the hypotheses again. -/
theorem disabledTimeoutHangsForEver : Obligations.DisabledTimeoutHangsForEver := by
  intro s p hb hp hpoll h0 hd hs k
  induction k generalizing s with
  | zero => exact ⟨s.now, rfl⟩
  | succ k ih =>
    obtain ⟨m, hstep⟩ := step_of_hanging hb hp hpoll h0 hd hs
    obtain ⟨n, hrun⟩ := ih { s with now := m, script := s.script.tail } hb hp hpoll h0 hd
      fun t ht => hs t (List.mem_of_mem_tail ht)
    refine ⟨n, ?_⟩
    rw [core_run_succ hstep, hrun, List.drop_tail]

/-! ### The classification (R126, R131, R134, R137, R140) -/

/-- The statuses with which a primitive succeeds (R131, R134, R137, R140). -/
def successStatuses (cfg : Params) : Prim → List Byte
  | .start => [cfg.stStart, cfg.stRepStart]
  | .addr d => [if d then cfg.stMrSlaAck else cfg.stMtSlaAck]
  | .byte => [cfg.stMtDataAck]
  | .recv ack => [if ack then cfg.stMrDataAck else cfg.stMrDataNack]
  | .stop => []

/-- The status with which a slave refuses what a primitive sends (R134, R137). -/
def refusalStatuses (cfg : Params) : Prim → List Byte
  | .start => []
  | .addr d => [if d then cfg.stMrSlaNack else cfg.stMtSlaNack]
  | .byte => [cfg.stMtDataNack]
  | .recv _ => []
  | .stop => []

theorem classify_eq_success_iff {cfg : Params} {p : Prim} (hp : p ≠ .stop) (st : Byte) :
    classify cfg p st = .success ↔ st ∈ successStatuses cfg p := by
  rcases p with _ | (_ | _) | _ | _ | _
  case stop => exact absurd rfl hp
  all_goals
    simp only [classify, successStatuses]
    split_ifs <;> simp_all

/-- A slave's refusal is told from a success because the named statuses differ (R101). -/
theorem classify_eq_nack_iff {cfg : Params} (hc : cfg.Ok) (p : Prim) (st : Byte) :
    classify cfg p st = .nack ↔ st ∈ refusalStatuses cfg p := by
  have hne : cfg.stMtSlaAck ≠ cfg.stMtSlaNack ∧ cfg.stMrSlaAck ≠ cfg.stMrSlaNack ∧
      cfg.stMtDataAck ≠ cfg.stMtDataNack := by
    simp [named_ne cfg hc]
  obtain ⟨hmt, hmr, hdata⟩ := hne
  rcases p with _ | (_ | _) | _ | _ | _
  case stop => simp [classify, refusalStatuses]
  all_goals
    simp only [classify, refusalStatuses]
    split_ifs <;> simp_all [Ne.symm]

theorem phaseStatus_of_success {p : Prim} {s : State} (h : classify s.cfg p s.status = .success) :
    phaseStatus p s = gotoPhase .done { s with saved := s.status, outc := .ok } := by
  rw [phaseStatus, h]

theorem phaseStatus_of_nack {p : Prim} {s : State} (h : classify s.cfg p s.status = .nack) :
    phaseStatus p s = beginNestedStop { s with saved := s.status } := by
  rw [phaseStatus, h]

theorem phaseStatus_of_busFault {p : Prim} {s : State} (h : classify s.cfg p s.status = .busFault) :
    phaseStatus p s = takeFailure (.status s.status) { s with saved := s.status } := by
  rw [phaseStatus, h]

/-- A status that is neither a success nor a slave's refusal is a bus fault (R225). -/
theorem classify_eq_busFault {cfg : Params} (hc : cfg.Ok) {p : Prim} (hp : p ≠ .stop) {st : Byte}
    (hgood : st ∉ successStatuses cfg p) (hnack : st ∉ refusalStatuses cfg p) : classify cfg p st = .busFault := by
  rw [← classify_eq_success_iff hp] at hgood
  rw [← classify_eq_nack_iff hc] at hnack
  cases h : classify cfg p st
  · exact absurd h hgood
  · exact absurd h hnack
  · rfl

/-- Settles O38: the three classes of a status are the two lists of the primitive's table and the rest. -/
theorem statusIsClassifiedByThePrimitivesTable : Obligations.StatusIsClassifiedByThePrimitivesTable := by
  intro s p hc hb hm hp hst hne good nacks
  have hstep : step s = .next (phaseStatus p { s with script := s.script.tail }) := by
    rw [step_of_engineMoves s hm, engineTurn_busy { s with script := s.script.tail } hb]
    exact microStep_status { s with script := s.script.tail } p hp hst
  rw [hstep]
  refine ⟨fun h => ?_, fun h => ?_, fun hgood hnack => ?_⟩
  · exact congrArg Host.Outcome.next
      (phaseStatus_of_success (s := { s with script := s.script.tail }) ((classify_eq_success_iff hne s.status).mpr h))
  · exact congrArg Host.Outcome.next
      (phaseStatus_of_nack (s := { s with script := s.script.tail }) ((classify_eq_nack_iff hc p s.status).mpr h))
  · exact congrArg Host.Outcome.next
      (phaseStatus_of_busFault (s := { s with script := s.script.tail }) (classify_eq_busFault hc hne hgood hnack))

end Sys2Proof.Machine
end

section
/-! PROOFS. How a primitive runs: from its first micro-phase to its arm, the bus side's answer, its classification and
its end (40_primitives R121 to R146), and the primitive commands whose action completes. -/
namespace Sys2Proof.Machine

/-! ### From the first micro-phase to the arm (R121) -/

/-- The engine stands at the first micro-phase of `p`: `M_DATA` of a send, `M_T0` of the others (R121). -/
structure Begins (p : Prim) (s : State) : Prop where
  busy : s.busy = true
  prim : currentPrim s = some p
  phase : s.seq.mph = if (dataOperand p s).isSome then .data else .t0

/-- The state in which the engine polls for `p` for the first time: the byte of a send written, `T0` latched, the
action armed (R121). -/
def launched (p : Prim) (s : State) : State := phaseArm p (phaseT0 (phaseData p s))

/-- The write of `DATA` a primitive makes, if it makes one (R133, R136). -/
def dataWrites (p : Prim) (s : State) : List Ev := (dataOperand p s).toList.map .data

/-- Everything the micro-phases up to the arm change. -/
theorem launched_eq (p : Prim) (s : State) :
    launched p s =
      { s with
        data := (dataOperand p s).getD s.data, t0 := s.now, ctrl := armedCtrl (armWord p),
        pend := actionOf (armWord p), status := Config.freeByte s.free, free := s.free + 1,
        line := { s.line with phase := .idle, shift := 0, bitn := 0 },
        ev := s.ev ++ dataWrites p s ++ [.ctrl (armWord p)], seq := { s.seq with mph := .poll } } := by
  rw [launched, phaseArm, ctrlWrite_armWord, phaseData, dataWrites]
  cases dataOperand p s with
  | none => simp [arm, emit, freshStatus, gotoPhase, phaseT0]
  | some b => rfl

theorem currentPrim_launched (p : Prim) (s : State) : currentPrim (launched p s) = currentPrim s := by
  rw [launched_eq]
  rfl

/-- A send takes one turn more than the other primitives, for `M_DATA` (R121). -/
theorem armTurns_eq (p : Prim) (s : State) :
    armTurns p = engineTurns (if (dataOperand p s).isSome then 3 else 2) := by
  cases p <;> rfl

theorem runTurns_t0_arm {p : Prim} {s : State} (hb : s.busy = true) (hp : currentPrim s = some p)
    (hm : s.seq.mph = .t0) (l : List Turn) :
    runTurns (engineTurns 2 ++ l) s = runTurns l (phaseArm p (phaseT0 s)) :=
  calc runTurns (.engine :: .engine :: l) s
    _ = runTurns (.engine :: l) (phaseT0 s) := runTurns_engine _ s _ hb (microStep_t0 s p hp hm)
    _ = runTurns l (phaseArm p (phaseT0 s)) := runTurns_engine _ _ _ hb (microStep_arm (phaseT0 s) p hp rfl)

/-- The turns up to the arm, whatever comes after them. -/
theorem runTurns_armTurns {p : Prim} {s : State} (h : Begins p s) (l : List Turn) :
    runTurns (armTurns p ++ l) s = runTurns l (launched p s) := by
  obtain ⟨hb, hp, hm⟩ := h
  rw [armTurns_eq p s, launched]
  cases hd : dataOperand p s with
  | none =>
    have hm : s.seq.mph = .t0 := by simpa [hd] using hm
    have hdata : phaseData p s = s := by
      simp only [phaseData, hd, gotoPhase, ← hm]
    rw [hdata]
    exact runTurns_t0_arm hb hp hm l
  | some b =>
    have hm : s.seq.mph = .data := by simpa [hd] using hm
    have hdata : phaseData p s = gotoPhase .t0 (dataWrite b s) := by rw [phaseData, hd]
    calc runTurns (.engine :: (engineTurns 2 ++ l)) s
      _ = runTurns (engineTurns 2 ++ l) (phaseData p s) := runTurns_engine _ s _ hb (microStep_data s p hp hm)
      _ = runTurns l (phaseArm p (phaseT0 (phaseData p s))) := by
        rw [hdata]
        exact runTurns_t0_arm (s := gotoPhase .t0 (dataWrite b s)) hb hp rfl l

/-! ### The answer of the bus side (R194, R196) -/

/-- The state after the bus side has completed the action `p` armed with status `st` and byte `b` (R194). -/
def answered (p : Prim) (st b : Byte) (r : Bool) (s : State) : State := completeAction st b r (launched p s)

/-- The byte the answer writes to `DATA`, if the action receives (R193, R199). -/
def receivedByte (p : Prim) (b : Byte) (r : Bool) (s : State) : Option Byte :=
  if receivesByte (launched p s) r then some b else none

/-- Everything a primitive has changed when its action is complete. -/
theorem answered_eq {p : Prim} (hp : p ≠ .stop) (st b : Byte) (r : Bool) (s : State) :
    ∃ l, answered p st b r s =
      { s with
        data := (receivedByte p b r s).getD ((dataOperand p s).getD s.data), t0 := s.now, ctrl := armWord p,
        pend := .noAct, held := heldAfter s.cfg st s.held, mode := modeAfter s.cfg st s.mode, status := st,
        free := s.free + 1, line := l,
        ev := s.ev ++ dataWrites p s ++ [.ctrl (armWord p), .done st (receivedByte p b r s)],
        seq := { s.seq with mph := .poll } } := by
  refine ⟨(answered p st b r s).line, ?_⟩
  rw [answered, receivedByte]
  cases hr : receivesByte (launched p s) r
  all_goals
    simp only [completeAction, hr]
    rw [launched_eq]
    simp [emit, setCF_armed p hp]

theorem launched_busy (p : Prim) (s : State) : (launched p s).busy = s.busy := by rw [launched_eq]

theorem launched_poll (p : Prim) (s : State) : (launched p s).seq.mph = .poll := by rw [launched_eq]

theorem launched_pend (p : Prim) (s : State) : (launched p s).pend = actionOf (armWord p) := by rw [launched_eq]

theorem launched_enabled (p : Prim) (s : State) : ctrlEN (launched p s).ctrl = true := by
  rw [launched_eq]
  exact armedCtrl_armWord_enabled p

/-- The pending start or transfer of a primitive is completed by any answer (R194). -/
theorem envStep_done_launched {p : Prim} (hp : p ≠ .stop) (st b : Byte) (r : Bool) (s : State) :
    envStep (.done st b r) (launched p s) = answered p st b r s := by
  have hne := actionOf_armWord_ne_noAct p
  have hns := mt (actionOf_armWord_eq_stopAct p).mp hp
  rw [← launched_pend p s] at hne hns
  simp only [envStep, busDone, launched_enabled, if_true, answered]
  cases h : (launched p s).pend
  case noAct => exact absurd h hne
  case stopAct => exact absurd h hns
  all_goals rfl

/-- The pending stop is completed (R196). -/
theorem envStep_sto_launched (s : State) :
    envStep .sto (launched .stop s) = completeStop (launched .stop s) := by
  have hact : (launched .stop s).pend = .stopAct :=
    (launched_pend .stop s).trans ((actionOf_armWord_eq_stopAct .stop).mpr rfl)
  simp only [envStep, busStop, launched_enabled, if_true, hact]

/-- A completed start or transfer ends the polling (R122). -/
theorem pollDone_armWord {p : Prim} (hp : p ≠ .stop) : pollDone p (armWord p) = true := by
  rcases p with _ | (_ | _) | _ | (_ | _) | _
  case stop => exact absurd rfl hp
  all_goals rfl

theorem primTurns_eq {p : Prim} (hp : p ≠ .stop) (a : EnvEvent) :
    primTurns p a = armTurns p ++ .env a :: engineTurns 2 := by
  cases p
  case stop => exact absurd rfl hp
  all_goals rfl

/-- A primitive whose action is completed comes to its classification (R121, R126). -/
theorem runTurns_primTurns {p : Prim} {s : State} (h : Begins p s) (hp : p ≠ .stop) (st b : Byte) (r : Bool)
    (l : List Turn) :
    runTurns (primTurns p (.done st b r) ++ l) s =
      runTurns l (phaseStatus p (gotoPhase .status (answered p st b r s))) := by
  have hb : (launched p s).busy = true := (launched_busy p s).trans h.busy
  have hprim : currentPrim (answered p st b r s) = some p := (currentPrim_launched p s).trans h.prim
  have hdone : pollDone p (answered p st b r s).ctrl = true := by
    obtain ⟨_, hl⟩ := answered_eq hp st b r s
    rw [hl]
    exact pollDone_armWord hp
  have hpoll : microStep (answered p st b r s) = .next (gotoPhase .status (answered p st b r s)) := by
    rw [microStep_poll _ p hprim (launched_poll p s), phasePoll_completed hdone, afterCompletion_of_ne_stop hp]
  calc runTurns (primTurns p (.done st b r) ++ l) s
    _ = runTurns (.env (.done st b r) :: .engine :: .engine :: l) (launched p s) := by
      rw [primTurns_eq hp, List.append_assoc, runTurns_armTurns h]
      rfl
    _ = runTurns (.engine :: .engine :: l) (answered p st b r s) := by
      rw [runTurns_env _ _ _ hb, envStep_done_launched hp]
    _ = runTurns (.engine :: l) (gotoPhase .status (answered p st b r s)) := runTurns_engine _ _ _ hb hpoll
    _ = runTurns l (phaseStatus p (gotoPhase .status (answered p st b r s))) :=
      runTurns_engine _ _ _ hb (microStep_status _ p hprim rfl)

/-! ### The primitive commands (R145) -/

/-- `SBYTE` sends the byte it latched (R136; log entry 10). -/
theorem dataOperand_sbyte (b : Byte) {s : State} (h : s.txbuf.wf = true) :
    dataOperand .byte (begun (.sbyte b) s) = some b :=
  congrArg some (Memory.read_write_same_from s.txbuf 0 0 b h)

section
variable {i : Instr} {k : TStep} {p : Prim} (hi : primitiveOf i = some (k, p)) (s : State)
include hi

theorem usesBus_of_primitive : usesBus i = true := by
  cases i <;> cases hi <;> rfl

theorem kindOf_begun_primitive : kindOf (begun i s).opc = .primitive := by
  cases i <;> cases hi <;> simp [begun, kindOf, Op.byte]

/-- A primitive command begins at its own step (R145, R233). -/
theorem seq_begun_primitive :
    (begun i s).seq = { tstep := k, mph := firstPhase k, idx := 0, nstop := false, seg := .payload } := by
  cases i <;> cases hi <;> rfl

/-- A primitive command begins with its own primitive, the acknowledge bit of a receive from its opcode (R88, R145). -/
theorem begins_begun : Begins p (begun i s) := by
  have hk := kindOf_begun_primitive hi s
  have hseq := seq_begun_primitive hi s
  refine ⟨?_, ?_, ?_⟩
  · cases i <;> cases hi <;> rfl
  · rw [currentPrim, ackOf, hk, hseq]
    cases i <;> cases hi <;> simp [primOfStep, begun, flag0, Op.byte]
  · rw [hseq]
    cases i <;> cases hi <;> rfl

/-- `M_DATA` of a primitive command writes its operand (R133, R136). -/
theorem dataWrites_begun (hm : s.txbuf.wf = true) : dataWrites p (begun i s) = dataEvents i := by
  cases i <;> cases hi
  case sbyte b =>
    rw [dataWrites, dataOperand_sbyte b hm]
    rfl
  all_goals rfl

end

/-- The end of a primitive command that succeeded: return code 0 (R145). -/
theorem runTurns_succeeds {p : Prim} {s : State} (hb : s.busy = true) (hp : currentPrim s = some p)
    (hm : s.seq.mph = .done) (hn : s.seq.nstop = false) (ho : s.outc = .ok) (hk : kindOf s.opc = .primitive)
    (l : List Turn) : runTurns (engineTurns 1 ++ l) s = .next { finish 0 s with script := l } := by
  have hdone : phaseDone s = finish 0 s := by simp [phaseDone, hn, checkOutcome, ho, advance, hk]
  have hstep : microStep s = .next (finish 0 s) := by rw [microStep_done s p hp hm, hdone]
  exact (runTurns_engine l s _ hb hstep).trans (runTurns_ended l (finish 0 s) rfl)

/-- A primitive command whose action is completed with a success status: everything it changes (R145). -/
theorem exec_primitive_succeeds {i : Instr} {k : TStep} {p : Prim} {s : State} {st b : Byte} {r : Bool}
    {rest : List Turn} {held : Bool} {mode : XMode} {d : Option Byte} (hi : primitiveOf i = some (k, p))
    (hp : p ≠ .stop) (hr : Ready s) (hs : s.script = primTurns p (.done st b r) ++ engineTurns 1 ++ rest)
    (hv : classify (begun i s).cfg p st = .success) (hheld : heldAfter (begun i s).cfg st (begun i s).held = held)
    (hmode : modeAfter (begun i s).cfg st (begun i s).mode = mode) (hd : receivedByte p b r (begun i s) = d) :
    ∃ l, exec i s = .next
      { begun i s with
        data := d.getD ((dataOperand p (begun i s)).getD (begun i s).data), t0 := (begun i s).now,
        ctrl := armWord p, pend := .noAct, held := held, mode := mode, status := st, saved := st, rc := 0,
        free := (begun i s).free + 1, line := l, seq := SeqPtr.rest, outc := .ok, busy := s.busy,
        rspq := (begun i s).rspq ++ [0], script := rest,
        ev := (begun i s).ev ++ (dataWrites p (begun i s) ++ [.ctrl (armWord p), .done st d, .rsp 0]) } := by
  have hbegins := begins_begun hi s
  have hn : (begun i s).seq.nstop = false := by rw [seq_begun_primitive hi]
  have hk := kindOf_begun_primitive hi s
  rw [exec_ready i s (usesBus_of_primitive hi) hr, hs, hr.1, List.append_assoc]
  generalize begun i s = v at *
  obtain ⟨l, hl⟩ := answered_eq hp st b r v
  rw [hheld, hmode, hd] at hl
  refine ⟨l, ?_⟩
  rw [runTurns_primTurns hbegins hp, hl, phaseStatus_of_success, runTurns_succeeds (p := p)]
  · simp [finish, respond, emit, gotoPhase]
  exacts [hbegins.busy, hbegins.prim, rfl, hn, rfl, hk, hv]

/-! ### The five primitives (R131, R134, R137, R140) -/

theorem launched_held (p : Prim) (s : State) : (launched p s).held = s.held := by rw [launched_eq]

theorem launched_mode (p : Prim) (s : State) : (launched p s).mode = s.mode := by rw [launched_eq]

section
variable {p : Prim} {s : State} (b : Byte) (r : Bool)

/-- A start receives nothing (R193). -/
theorem receivedByte_of_start (h : actionOf (armWord p) = .startAct) : receivedByte p b r s = none := by
  simp [receivedByte, receivesByte, launched_pend, h]

/-- A transfer that sends receives nothing (R193; log entry 33). -/
theorem receivedByte_of_send (h : actionOf (armWord p) = .xferAct) (hdir : xferDir s.held s.mode = .send) :
    receivedByte p b r s = none := by
  simp [receivedByte, receivesByte, launched_pend, launched_held, launched_mode, h, hdir]

/-- A transfer that receives delivers the answer's byte (R193, R194). -/
theorem receivedByte_of_receive (h : actionOf (armWord p) = .xferAct) (hdir : xferDir s.held s.mode = .receive) :
    receivedByte p b r s = some b := by
  simp [receivedByte, receivesByte, launched_pend, launched_held, launched_mode, h, hdir]

end

theorem heldAfter_of_start {cfg : Params} {st : Byte} (h : st = cfg.stStart ∨ st = cfg.stRepStart) (held : Bool) :
    heldAfter cfg st held = true := if_pos h

theorem modeAfter_of_start {cfg : Params} {st : Byte} (h : st = cfg.stStart ∨ st = cfg.stRepStart) (mode : XMode) :
    modeAfter cfg st mode = .noMode := if_pos h

/-- Settles O40: both commands run the primitive `start`. -/
theorem startCommandsSucceedOnAStartStatus : Obligations.StartCommandsSucceedOnAStartStatus := by
  intro s st b r rest hr hst hs
  have hv : classify s.cfg .start st = .success := if_pos hst
  simp only [List.forall_mem_cons]
  have run {i : Instr} {k : TStep} (hi : primitiveOf i = some (k, .start)) (hcfg : (begun i s).cfg = s.cfg) :=
    exec_primitive_succeeds hi (by simp) hr hs (hcfg ▸ hv) (heldAfter_of_start (hcfg ▸ hst) _)
      (modeAfter_of_start (hcfg ▸ hst) _) (receivedByte_of_start b r rfl)
  exact ⟨run (i := .start) rfl rfl, run (i := .startR) rfl rfl, List.forall_mem_nil _⟩

/-- Settles O41: the two directions of the address phase. -/
theorem addressCommandsSucceedOnTheirAck : Obligations.AddressCommandsSucceedOnTheirAck := by
  intro s a7 b r rest hr hc hheld hmode
  have hdir : xferDir s.held s.mode = .send := by rw [hheld, hmode]; rfl
  obtain ⟨-, -, hmtHeld, -, -, -, -, hmrHeld, -⟩ := heldAfter_named s.cfg hc s.held
  obtain ⟨-, -, hmtMode, -, -, -, -, hmrMode, -⟩ := modeAfter_named s.cfg hc s.mode
  have hmt : classify s.cfg (.addr false) s.cfg.stMtSlaAck = .success := if_pos rfl
  have hmr : classify s.cfg (.addr true) s.cfg.stMrSlaAck = .success := if_pos rfl
  exact ⟨fun hs => exec_primitive_succeeds (i := .saddrW a7) rfl (by simp) hr hs hmt hmtHeld hmtMode
      (receivedByte_of_send b r rfl hdir),
    fun hs => exec_primitive_succeeds (i := .saddrR a7) rfl (by simp) hr hs hmr hmrHeld hmrMode
      (receivedByte_of_send b r rfl hdir)⟩

/-- Settles O43: the two acknowledge modes of a receive. -/
theorem rbyteCommandsDeliverTheReceivedByte : Obligations.RbyteCommandsDeliverTheReceivedByte := by
  intro s b r rest hr hc hmode
  have hdir : xferDir s.held s.mode = .receive := by rw [hmode]; rfl
  obtain ⟨-, -, -, -, -, -, -, -, -, hackHeld, hnackHeld⟩ := heldAfter_named s.cfg hc s.held
  obtain ⟨-, -, -, -, -, -, -, -, -, hackMode, hnackMode⟩ := modeAfter_named s.cfg hc s.mode
  have hack : classify s.cfg (.recv true) s.cfg.stMrDataAck = .success := if_pos rfl
  have hnack : classify s.cfg (.recv false) s.cfg.stMrDataNack = .success := if_pos rfl
  exact ⟨fun hs => exec_primitive_succeeds (i := .rbyteA) rfl (by simp) hr hs hack hackHeld hackMode
      (receivedByte_of_receive b r rfl hdir),
    fun hs => exec_primitive_succeeds (i := .rbyteN) rfl (by simp) hr hs hnack hnackHeld hnackMode
      (receivedByte_of_receive b r rfl hdir)⟩

/-- Settles O42: the byte is read back from the payload latch. -/
theorem sbyteSucceedsOnTheDataAck : Obligations.SbyteSucceedsOnTheDataAck := by
  intro s b x r rest hr hm hc hmode hs
  obtain ⟨-, -, htx, -⟩ := hm
  have hdir : xferDir s.held s.mode = .send := by rw [hmode]; rfl
  obtain ⟨-, -, -, -, hheld, -⟩ := heldAfter_named s.cfg hc s.held
  obtain ⟨-, -, -, -, hstays, -⟩ := modeAfter_named s.cfg hc s.mode
  have hv : classify s.cfg .byte s.cfg.stMtDataAck = .success := if_pos rfl
  obtain ⟨l, h⟩ := exec_primitive_succeeds (i := .sbyte b) rfl (by simp) hr hs hv hheld hstays
    (receivedByte_of_send x r rfl hdir)
  rw [dataWrites, dataOperand_sbyte b htx] at h
  exact ⟨l, h⟩

theorem armWord_stop : armWord .stop = 0b11001 := rfl

/-- Everything a stop has changed when the bus side has completed it (R196; log entry 6). -/
theorem completeStop_launched (s : State) :
    ∃ l, completeStop (launched .stop s) =
      { s with
        t0 := s.now, ctrl := 0b00001, pend := .noAct, held := false, mode := .noMode,
        status := Config.freeByte (s.free + 1), free := s.free + 2, line := l,
        ev := s.ev ++ [.ctrl 0b11001, .sto], seq := { s.seq with mph := .poll } } := by
  refine ⟨(completeStop (launched .stop s)).line, ?_⟩
  rw [launched_eq, armWord_stop]
  simp [completeStop, emit, freshStatus, dataOperand, dataWrites, armedCtrl, clearSTO]

/-- A stop the bus side completes succeeds without a status (R142, R143). -/
theorem runTurns_stopTurns {s : State} (h : Begins .stop s) (l : List Turn) :
    runTurns (stopTurns .sto ++ l) s =
      runTurns l (gotoPhase .done { completeStop (launched .stop s) with outc := .ok }) := by
  have hb : (launched .stop s).busy = true := (launched_busy .stop s).trans h.busy
  have hprim : currentPrim (completeStop (launched .stop s)) = some .stop :=
    (currentPrim_launched .stop s).trans h.prim
  have hdone : pollDone .stop (completeStop (launched .stop s)).ctrl = true := by
    obtain ⟨_, hl⟩ := completeStop_launched s
    simp [hl, pollDone, ctrlSTO]
  have hpoll : microStep (completeStop (launched .stop s)) =
      .next (gotoPhase .done { completeStop (launched .stop s) with outc := .ok }) := by
    rw [microStep_poll _ .stop hprim (launched_poll .stop s), phasePoll_completed hdone]
    rfl
  calc runTurns (stopTurns .sto ++ l) s
    _ = runTurns (.env .sto :: .engine :: l) (launched .stop s) := runTurns_armTurns h (.env .sto :: .engine :: l)
    _ = runTurns (.engine :: l) (completeStop (launched .stop s)) := by
      rw [runTurns_env _ _ _ hb, envStep_sto_launched]
    _ = runTurns l (gotoPhase .done { completeStop (launched .stop s) with outc := .ok }) :=
      runTurns_engine _ _ _ hb hpoll

/-- Settles O44: the poll of a stop ends with the command's success. -/
theorem stopCommandReleasesTheBus : Obligations.StopCommandReleasesTheBus := by
  intro s rest hr hs
  have hbegins : Begins .stop (begun .stop s) := begins_begun (i := .stop) rfl s
  obtain ⟨l, hl⟩ := completeStop_launched (begun .stop s)
  refine ⟨l, ?_⟩
  rw [exec_ready .stop s rfl hr, hs, List.append_assoc, runTurns_stopTurns hbegins, hl,
    runTurns_succeeds (p := .stop)]
  · simp [finish, respond, emit, gotoPhase, begun, Op.byte, hr.1]
  exacts [rfl, rfl, rfl, rfl, rfl, kindOf_begun_primitive (i := .stop) rfl s]

end Sys2Proof.Machine
end

section
/-! PROOFS. A primitive whose action never completes, lockup recovery, and the stop of a refused send (40_primitives R127,
60_exceptions R227 to R231, R243). -/
namespace Sys2Proof.Machine

/-! ### The clock (R244) -/

/-- The state `n` ticks later. -/
def afterTicks (n : Nat) (s : State) : State := { s with now := s.now + BitVec.ofNat 32 n }

theorem afterTicks_zero (s : State) : afterTicks 0 s = s := by
  have hnow : s.now + BitVec.ofNat 32 0 = s.now := BitVec.add_zero s.now
  rw [afterTicks, hnow]

theorem afterTicks_tick (n : Nat) (s : State) : afterTicks n (tick s) = afterTicks (n + 1) s := by
  have hnow : s.now + 1 + BitVec.ofNat 32 n = s.now + BitVec.ofNat 32 (n + 1) := by
    rw [BitVec.add_assoc, BitVec.add_comm 1, ← BitVec.ofNat_add_ofNat]
    rfl
  rw [afterTicks, afterTicks, ← hnow]
  rfl

theorem runTurns_ticks (n : Nat) {s : State} (hb : s.busy = true) (l : List Turn) :
    runTurns (ticks n ++ l) s = runTurns l (afterTicks n s) := by
  induction n generalizing s with
  | zero => exact congrArg (runTurns l) (afterTicks_zero s).symm
  | succ n ih =>
    calc runTurns (.env .tick :: (ticks n ++ l)) s
      _ = runTurns (ticks n ++ l) (tick s) := runTurns_env _ _ _ hb
      _ = runTurns l (afterTicks (n + 1) s) := by rw [ih (s := tick s) hb, afterTicks_tick]

/-! ### Lockup recovery (R230) -/

/-- The state after lockup recovery of a primitive that failed with outcome `o` (R227, R230). -/
def recovered (o : PrimResult) (s : State) : State := lockupSecond (lockupFirst (takeFailure o s))

/-- Everything lockup recovery changes (R230). -/
theorem recovered_eq (o : PrimResult) (s : State) :
    recovered o s =
      { s with
        ctrl := 0b00011, pend := .noAct, held := false, mode := .noMode, status := Config.freeByte s.free,
        free := s.free + 1, line := Line.released, outc := o, ev := s.ev ++ [.ctrl 0b00000, .ctrl 0b00011],
        seq := { s.seq with mph := .done } } := by
  rw [recovered, lockupSecond, ctrlWrite_idle, lockupFirst, ctrlWrite_disable]
  simp [disable, emit, freshStatus, gotoPhase, takeFailure, idleCtrl]

/-- The two writes of lockup recovery, from the failure on. -/
theorem runTurns_recovery (o : PrimResult) {p : Prim} {s : State} (hb : s.busy = true) (hp : currentPrim s = some p)
    (l : List Turn) : runTurns (engineTurns 2 ++ l) (takeFailure o s) = runTurns l (recovered o s) := by
  have hfirst : currentPrim (lockupFirst (takeFailure o s)) = some p := by
    rw [lockupFirst, ctrlWrite_disable]
    exact hp
  calc runTurns (.engine :: .engine :: l) (takeFailure o s)
    _ = runTurns (.engine :: l) (lockupFirst (takeFailure o s)) :=
      runTurns_engine _ _ _ hb (microStep_lock0 (takeFailure o s) p hp rfl)
    _ = runTurns l (recovered o s) := runTurns_engine _ _ _ hb (microStep_lock1 _ p hfirst rfl)

/-! ### An action that never completes (R227) -/

/-- The time since `T0` after fewer than 2^32 ticks is their number (R245). -/
theorem elapsed_ticks (t : Millis) {n : Nat} (hn : n < 2 ^ 32) : (t + BitVec.ofNat 32 n - t).toNat = n := by
  rw [BitVec.add_comm, BitVec.add_sub_cancel, BitVec.toNat_ofNat, Nat.mod_eq_of_lt hn]

section
variable {p : Prim} {s : State} (h : Begins p s) {n : Nat} (h0 : s.timeout ≠ 0) (hle : s.timeout.toNat ≤ n)
  (hn : n < 2 ^ 32)
include h0 hle hn

/-- The first poll after `TIMEOUT` ticks with no completion ends in a timeout (R123). -/
theorem phasePoll_afterTicks :
    phasePoll p (afterTicks n (launched p s)) = takeFailure .timeout (afterTicks n (launched p s)) := by
  rw [launched_eq, afterTicks]
  exact phasePoll_timedOut (pollDone_armed p) h0 (by simpa only [elapsed_ticks s.now hn] using hle)

include h

/-- A primitive whose action never completes goes through lockup recovery with the outcome `Timeout` (R227). -/
theorem runTurns_timesOut (l : List Turn) :
    runTurns (armTurns p ++ (ticks n ++ (engineTurns 3 ++ l))) s =
      runTurns l (recovered .timeout (afterTicks n (launched p s))) := by
  have hb : (launched p s).busy = true := (launched_busy p s).trans h.busy
  have hp : currentPrim (launched p s) = some p := (currentPrim_launched p s).trans h.prim
  have hpoll : microStep (afterTicks n (launched p s)) = .next (takeFailure .timeout (afterTicks n (launched p s))) := by
    rw [microStep_poll (afterTicks n (launched p s)) p hp (launched_poll p s), phasePoll_afterTicks h0 hle hn]
  rw [runTurns_armTurns h, runTurns_ticks n hb]
  exact (runTurns_engine _ (afterTicks n (launched p s)) _ hb hpoll).trans
    (runTurns_recovery .timeout (s := afterTicks n (launched p s)) hb hp l)

end

/-! ### The stop of a refused send (R127) -/

/-- Only a send can be refused (R134, R137). -/
theorem send_of_nack {cfg : Params} {p : Prim} {st : Byte} (h : classify cfg p st = .nack) :
    (∀ a, primTurns p a = sendTurns a) ∧ p ≠ .stop ∧ armWord p = 0b10001 := by
  rcases p with _ | d | _ | a | _
  case addr | byte => exact ⟨fun _ => rfl, by simp, rfl⟩
  case stop => cases h
  all_goals
    simp only [classify] at h
    split_ifs at h

/-- The state in which the nested stop of a refused send begins (R127). -/
def refused (p : Prim) (st b : Byte) (r : Bool) (s : State) : State :=
  beginNestedStop { answered p st b r s with saved := st }

theorem refused_eq {p : Prim} (hp : p ≠ .stop) (st b : Byte) (r : Bool) (s : State) :
    ∃ d h m l, refused p st b r s =
      { s with
        data := d, t0 := s.now, ctrl := armWord p, pend := .noAct, held := h, mode := m, status := st, saved := st,
        free := s.free + 1, line := l,
        ev := s.ev ++ dataWrites p s ++ [.ctrl (armWord p), .done st (receivedByte p b r s)],
        seq := { s.seq with mph := .t0, nstop := true } } := by
  obtain ⟨l, hl⟩ := answered_eq hp st b r s
  rw [refused, hl]
  exact ⟨_, _, _, l, rfl⟩

/-- A send the slave refuses comes to its nested stop. -/
theorem runTurns_refused {p : Prim} {s : State} {st : Byte} (h : Begins p s) (hv : classify s.cfg p st = .nack)
    (b : Byte) (r : Bool) (l : List Turn) :
    runTurns (sendTurns (.done st b r) ++ l) s = runTurns l (refused p st b r s) := by
  obtain ⟨hturns, hp, -⟩ := send_of_nack hv
  have hcfg : (launched p s).cfg = s.cfg := by rw [launched_eq]
  have hnack : phaseStatus p (gotoPhase .status (answered p st b r s)) = refused p st b r s :=
    phaseStatus_of_nack (by rw [← hcfg] at hv; exact hv)
  rw [← hturns, runTurns_primTurns h hp, hnack]

theorem begins_refused {p : Prim} {s : State} (h : Begins p s) (st b : Byte) (r : Bool) :
    Begins .stop (refused p st b r s) := ⟨(launched_busy p s).trans h.busy, rfl, rfl⟩

/-- A step that is one runs a primitive (R233). -/
theorem primOfStep_of_ne_noStep {k : TStep} (hk : k ≠ .noStep) (a : Bool) : ∃ p, primOfStep k a = some p := by
  cases k
  case noStep => exact absurd rfl hk
  all_goals exact ⟨_, rfl⟩

/-- The end of a nested stop, whatever its outcome: the command ends with the refusal's status (R127, R145). -/
theorem runTurns_nestedStop_ends {s : State} (hb : s.busy = true) (hm : s.seq.mph = .done) (hn : s.seq.nstop = true)
    (hk : s.seq.tstep ≠ .noStep) (l : List Turn) :
    runTurns (engineTurns 2 ++ l) s = .next { finish s.saved (endNestedStop s) with script := l } := by
  have hstop : currentPrim s = some .stop := by simp [currentPrim, hn]
  obtain ⟨p, hp⟩ : ∃ p, currentPrim (endNestedStop s) = some p :=
    primOfStep_of_ne_noStep hk (ackOf (endNestedStop s))
  have hfirst : microStep s = .next (endNestedStop s) := by simp [microStep_done s .stop hstop hm, phaseDone, hn]
  have hsecond : microStep (endNestedStop s) = .next (finish s.saved (endNestedStop s)) := microStep_done _ p hp rfl
  calc runTurns (.engine :: .engine :: l) s
    _ = runTurns (.engine :: l) (endNestedStop s) := runTurns_engine _ _ _ hb hfirst
    _ = runTurns l (finish s.saved (endNestedStop s)) := runTurns_engine _ _ _ hb hsecond
    _ = .next { finish s.saved (endNestedStop s) with script := l } := runTurns_ended _ _ rfl

/-- The state in which a primitive command begins to run has the ReceiveBuffer and the streams of the one before. -/
theorem receiveUntouched_begun_primitive {i : Instr} {k : TStep} {p : Prim} (hi : primitiveOf i = some (k, p))
    (s : State) : ReceiveUntouched s (begun i s) := by
  cases i <;> cases hi <;> exact ⟨rfl, rfl, rfl, rfl⟩

theorem step_of_primitive {i : Instr} {k : TStep} {p : Prim} (hi : primitiveOf i = some (k, p)) : k ≠ .noStep := by
  cases i <;> cases hi <;> simp

/-- The end of a refused send whose nested stop has timed out (R127, R230). -/
def refusalRecovered (p : Prim) (st b : Byte) (r : Bool) (n : Nat) (s : State) : State :=
  finish st (endNestedStop (recovered .timeout (afterTicks n (launched .stop (refused p st b r s)))))

/-- What such a send has changed: nothing outside the registers of the bus side, the clock, the latches of the primitive
and the end of the command (R127, R230). -/
theorem refusalRecovered_eq {p : Prim} (hp : p ≠ .stop) (st b : Byte) (r : Bool) (n : Nat) (s : State) :
    ∃ d, refusalRecovered p st b r n s =
      { s with
        data := d, now := s.now + BitVec.ofNat 32 n, t0 := s.now, status := Config.freeByte (s.free + 2),
        free := s.free + 3, ctrl := 0b00011, pend := .noAct, held := false, mode := .noMode, line := Line.released,
        saved := st, rc := st, outc := .status st, seq := SeqPtr.rest, busy := false, rspq := s.rspq ++ [st],
        ev := s.ev ++ dataWrites p s ++ [.ctrl (armWord p), .done st (receivedByte p b r s), .ctrl 0b11001,
          .ctrl 0b00000, .ctrl 0b00011, .rsp st] } := by
  obtain ⟨d, _, _, _, hw⟩ := refused_eq hp st b r s
  refine ⟨d, ?_⟩
  rw [refusalRecovered, recovered_eq, afterTicks, launched_eq, hw]
  simp [finish, respond, emit, endNestedStop, dataOperand, dataWrites, armWord_stop]

/-- A refused send whose nested stop never completes, from its first micro-phase to its end (R127, R243). -/
theorem runTurns_refused_timesOut {p : Prim} {s : State} {st : Byte} {n : Nat} (h : Begins p s)
    (hv : classify s.cfg p st = .nack) (hk : s.seq.tstep ≠ .noStep) (h0 : s.timeout ≠ 0) (hle : s.timeout.toNat ≤ n)
    (hn : n < 2 ^ 32) (b : Byte) (r : Bool) (l : List Turn) :
    runTurns (sendTurns (.done st b r) ++ engineTurns 2 ++ ticks n ++ engineTurns 5 ++ l) s =
      .next { refusalRecovered p st b r n s with script := l } := by
  obtain ⟨-, hp, -⟩ := send_of_nack hv
  have hturns : sendTurns (.done st b r) ++ engineTurns 2 ++ ticks n ++ engineTurns 5 ++ l =
      sendTurns (.done st b r) ++ (armTurns .stop ++ (ticks n ++ (engineTurns 3 ++ (engineTurns 2 ++ l)))) := by
    simp only [List.append_assoc]
    rfl
  obtain ⟨_, _, _, _, hw⟩ := refused_eq hp st b r s
  have hto : (refused p st b r s).timeout = s.timeout := by rw [hw]
  rw [hturns, runTurns_refused h hv, runTurns_timesOut (begins_refused h st b r) (by rwa [hto]) (by rwa [hto]) hn,
    refusalRecovered]
  have hu : (recovered .timeout (afterTicks n (launched .stop (refused p st b r s)))).busy = true ∧
      (recovered .timeout (afterTicks n (launched .stop (refused p st b r s)))).saved = st ∧
      (recovered .timeout (afterTicks n (launched .stop (refused p st b r s)))).seq =
        { s.seq with mph := .done, nstop := true } := by
    rw [recovered_eq, afterTicks, launched_eq, hw]
    exact ⟨h.busy, rfl, rfl⟩
  generalize recovered .timeout (afterTicks n (launched .stop (refused p st b r s))) = u at hu ⊢
  obtain ⟨hb, rfl, hseq⟩ := hu
  exact runTurns_nestedStop_ends hb (by rw [hseq]) (by rw [hseq]) (by rw [hseq]; exact hk) l

/-- Settles O47: the nested stop times out, and its outcome is discarded. -/
theorem timedOutRefusalStopIsNotReported : Obligations.TimedOutRefusalStopIsNotReported := by
  intro i k p s st b r n rest hr hm hi hv h0 hle hn hs
  obtain ⟨-, -, htx, -⟩ := hm
  have hu := usesBus_of_primitive hi
  have hdata := dataWrites_begun hi s htx
  have hrecv := receiveUntouched_begun_primitive hi s
  obtain ⟨hto, -, herr, hcmdq, -, hcfg, -, -, -, -, -, -, -, -, hrxout, hrspq, hev, -⟩ := begun_keeps i s hu
  obtain ⟨-, hp, harm⟩ := send_of_nack hv
  have hrun := runTurns_refused_timesOut (begins_begun hi s) (st := st) (n := n) (by rwa [hcfg])
    (by rw [seq_begun_primitive hi s]; exact step_of_primitive hi) (by rwa [hto]) (by rwa [hto]) hn b r rest
  obtain ⟨_, ht⟩ := refusalRecovered_eq hp st b r n (begun i s)
  rw [← hs, ← exec_ready i s hu hr, ht, hdata, harm, hev, hrspq] at hrun
  exact ⟨_, _, hrun, rfl, rfl, rfl, by simp [Idle, ctrlEN, ctrlSTA, ctrlSTO, ctrlCF], rfl, rfl,
    ⟨hto, herr, hcmdq, hcfg⟩, hrecv, hrxout, rfl⟩

end Sys2Proof.Machine
end

section
/-! PROOFS. How `START` and `START.R` can end under any schedule without a reset (40_primitives R131, 60_exceptions R233,
R247). -/
namespace Sys2Proof.Machine

/-- What is known of a start that has failed: a threshold was set, or the saved status is no start status (R131, R227). -/
abbrev StartFailed (s v : State) : Prop :=
  (v.outc = .timeout ∧ s.timeout ≠ 0) ∨
    (v.outc = .status v.saved ∧ v.saved ≠ v.cfg.stStart ∧ v.saved ≠ v.cfg.stRepStart)

/-- What is known of a start that has succeeded (R131). -/
abbrev StartSucceeded (v : State) : Prop :=
  v.outc = .ok ∧ v.ctrl = 0b10101 ∧ (v.saved = v.cfg.stStart ∨ v.saved = v.cfg.stRepStart)

/-- What holds all along the primitive `start` of a command begun in `s` as step `k`, while it runs. -/
structure StartRuns (k : TStep) (s v : State) : Prop where
  sound : Sound v
  busy : v.busy = true
  timeout : v.timeout = s.timeout
  kind : kindOf v.opc = .primitive
  step : v.seq.tstep = k
  plain : v.seq.nstop = false
  completed : v.seq.mph = .status → v.ctrl = 0b10101
  failed : v.seq.mph = .lock0 ∨ v.seq.mph = .lock1 → StartFailed s v
  ended : v.seq.mph = .done → StartSucceeded v ∨ (StartFailed s v ∧ v.ctrl = 0b00011)

/-- The two ways the command can have ended, `c` its step code (R145, R233, R247). -/
structure StartEnded (c : Byte) (s v : State) : Prop where
  notBusy : v.busy = false
  outcome : (v.rc = 0 ∧ v.ctrl = 0b10101 ∧ (v.saved = v.cfg.stStart ∨ v.saved = v.cfg.stRepStart)) ∨
    (Idle v ∧ v.ctrl = 0b00011 ∧ ((v.rc = c ∧ s.timeout ≠ 0) ∨
      (v.rc = v.saved ∧ v.saved ≠ v.cfg.stStart ∧ v.saved ≠ v.cfg.stRepStart)))

/-! ### The turns of the other agents -/

/-- With nothing pending no turn of another agent but a reset changes `CTRL` (R191, R203). -/
theorem envStep_ctrl_of_quiet (e : EnvEvent) {s : State} (he : e ≠ .rst) (hp : s.pend = .noAct) :
    (envStep e s).ctrl = s.ctrl := by
  cases hb : e.isBus
  · cases e
    case rst => exact absurd rfl he
    case tick | send | takeRsp | takeRx => rfl
    all_goals simp [EnvEvent.isBus] at hb
  · have hm := envStep_move e s hb
    generalize envStep e s = t at hm
    cases hm with
    | lines l => rfl
    | complete st b r l hen hact hstop => exact absurd hp hact
    | stop l hen hact => simp [hp] at hact

theorem startRuns_envStep {k : TStep} {s v : State} (e : EnvEvent) (he : e ≠ .rst) (h : StartRuns k s v) :
    StartRuns k s (envStep e v) := by
  have hk := envStep_keeps e v he
  have hc := h.sound.runningCtrl h.busy
  refine ⟨sound_envStep e h.sound, hk.busy.trans h.busy, hk.timeout.trans h.timeout, hk.opc ▸ h.kind,
    hk.seq ▸ h.step, hk.seq ▸ h.plain, fun hm => ?_, fun hm => ?_, fun hm => ?_⟩
  all_goals rw [hk.seq] at hm
  · rw [envStep_ctrl_of_quiet e he (hc.quiet (by simp [hm]) (by simp [hm]))]
    exact h.completed hm
  · simpa only [StartFailed, hk.outc, hk.saved, hk.cfg] using h.failed hm
  · have hctrl := envStep_ctrl_of_quiet e he (hc.quiet (by simp [hm]) (by simp [hm]))
    simpa only [StartSucceeded, StartFailed, hctrl, hk.outc, hk.saved, hk.cfg] using h.ended hm

/-! ### The engine's micro-phases -/

/-- The poll of a completed start finds `CTRL` as the arm pattern (R35, R194). -/
theorem ctrl_of_pollDone {s : State} {p : Prim} (h : Sound s) (hb : s.busy = true) (hp : currentPrim s = some p)
    (hne : p ≠ .stop) (hm : s.seq.mph = .poll) (hdone : pollDone p s.ctrl = true) : s.ctrl = armWord p := by
  rcases (h.runningCtrl hb).polling hm p hp with ⟨_, hctrl⟩ | ⟨_, hctrl⟩
  · rw [hctrl, pollDone_armed] at hdone
    cases hdone
  · simpa only [hne, if_false] using hctrl

section
variable {k : TStep} {s v t : State} (h : StartRuns k s v) (hs : microStep v = .next t)
include h hs

/-- The primitive moves on to another micro-phase. -/
theorem startRuns_moved {m : Mph} (hb : t.busy = true) (hseq : t.seq = { v.seq with mph := m })
    (completed : m = .status → t.ctrl = 0b10101) (failed : m = .lock0 ∨ m = .lock1 → StartFailed s t)
    (ended : m = .done → StartSucceeded t ∨ (StartFailed s t ∧ t.ctrl = 0b00011)) : StartRuns k s t := by
  obtain ⟨hk, -, -⟩ := microStep_keeps v t hs
  refine ⟨sound_microStep h.sound h.busy hs, hb, hk.timeout.trans h.timeout, hk.opc ▸ h.kind, ?_, ?_, ?_, ?_, ?_⟩
  all_goals rw [hseq]
  · exact h.step
  · exact h.plain
  · exact completed
  · exact failed
  · exact ended

/-- One poll iteration of a start (R123). -/
theorem startRuns_phasePoll (hp : currentPrim v = some .start) (hm : v.seq.mph = .poll) (ht : t = phasePoll .start v) :
    StartRuns k s t := by
  cases hd : pollDone .start v.ctrl
  · by_cases hto : v.timeout = 0 ∨ (v.now - v.t0).toNat < v.timeout.toNat
    · rw [phasePoll_continues hd hto] at ht
      exact ht ▸ h
    · obtain ⟨h0, hle⟩ := not_or.mp hto
      rw [phasePoll_timedOut hd h0 (not_lt.mp hle)] at ht
      subst ht
      exact startRuns_moved h hs (m := .lock0) h.busy rfl (by simp) (fun _ => .inl ⟨rfl, h.timeout ▸ h0⟩) (by simp)
  · rw [phasePoll_completed hd] at ht
    subst ht
    exact startRuns_moved h hs (m := .status) h.busy rfl
      (fun _ => ctrl_of_pollDone h.sound h.busy hp (by simp) hm hd) (by simp) (by simp)

/-- The classification of a start: its two statuses, or a bus fault (R131). -/
theorem startRuns_phaseStatus (hm : v.seq.mph = .status) (ht : t = phaseStatus .start v) : StartRuns k s t := by
  by_cases hst : v.status = v.cfg.stStart ∨ v.status = v.cfg.stRepStart
  · have hv : classify v.cfg .start v.status = .success := if_pos hst
    rw [phaseStatus_of_success hv] at ht
    subst ht
    exact startRuns_moved h hs (m := .done) h.busy rfl (by simp) (by simp)
      fun _ => .inl ⟨rfl, h.completed hm, hst⟩
  · have hv : classify v.cfg .start v.status = .busFault := if_neg hst
    rw [phaseStatus_of_busFault hv] at ht
    subst ht
    exact startRuns_moved h hs (m := .lock0) h.busy rfl (by simp) (fun _ => .inr ⟨rfl, not_or.mp hst⟩) (by simp)

/-- The second write of lockup recovery leaves `CTRL = 0b00011` (R230). -/
theorem startRuns_lockupSecond (hm : v.seq.mph = .lock1) (ht : t = lockupSecond v) : StartRuns k s t := by
  obtain ⟨hctrl, -⟩ := (h.sound.runningCtrl h.busy).disabled hm
  rw [lockupSecond, ctrlWrite_idle, hctrl] at ht
  subst ht
  exact startRuns_moved h hs (m := .done) h.busy rfl (by simp) (by simp) fun _ => .inr ⟨h.failed (.inr hm), rfl⟩

/-- The end of the command, with the return code of its outcome (R145, R232). -/
theorem startEnded_phaseDone (hm : v.seq.mph = .done) (ht : t = phaseDone v) : StartEnded (stepCode k) s t := by
  rw [phaseDone, h.plain, if_neg Bool.false_ne_true, checkOutcome] at ht
  rcases h.ended hm with ⟨ho, hctrl, hsaved⟩ | ⟨⟨ho, h0⟩ | ⟨ho, hsaved⟩, hctrl⟩
  · rw [ho, advance, h.kind] at ht
    subst ht
    exact ⟨rfl, .inl ⟨rfl, hctrl, hsaved⟩⟩
  · have hidle := (h.sound.runningCtrl h.busy).idle hm (.inl (by simp [ho]))
    rw [ho, h.step] at ht
    subst ht
    exact ⟨rfl, .inr ⟨hidle, hctrl, .inl ⟨rfl, h0⟩⟩⟩
  · have hidle := (h.sound.runningCtrl h.busy).idle hm (.inl (by simp [ho]))
    rw [ho] at ht
    subst ht
    exact ⟨rfl, .inr ⟨hidle, hctrl, .inr ⟨rfl, hsaved⟩⟩⟩

/-- A start runs on or ends. -/
theorem startRuns_microStep (hk : ∀ a, primOfStep k a = some .start) :
    StartRuns k s t ∨ StartEnded (stepCode k) s t := by
  have hp : currentPrim v = some .start := by simp [currentPrim, h.plain, h.step, hk]
  rcases microStep_cases v t hs with ⟨hnone, _⟩ | ⟨p, hp', hcase⟩
  · simp [hp] at hnone
  · obtain rfl : p = .start := Option.some.inj (hp'.symm.trans hp)
    rcases hcase with ⟨_, ht⟩ | ⟨_, ht⟩ | ⟨_, ht⟩ | ⟨hm, ht⟩ | ⟨hm, ht⟩ | ⟨hm, _⟩ | ⟨hm, _⟩ | ⟨hm, ht⟩ | ⟨hm, ht⟩ |
      ⟨hm, ht⟩
    · exact .inl (startRuns_moved h hs (m := .t0) (ht ▸ h.busy) (ht ▸ rfl) (by simp) (by simp) (by simp))
    · exact .inl (startRuns_moved h hs (m := .arm) (ht ▸ h.busy) (ht ▸ rfl) (by simp) (by simp) (by simp))
    · rw [phaseArm, ctrlWrite_armWord] at ht
      exact .inl (startRuns_moved h hs (m := .poll) (ht ▸ h.busy) (ht ▸ rfl) (by simp) (by simp) (by simp))
    · exact .inl (startRuns_phasePoll h hs hp hm ht)
    · exact .inl (startRuns_phaseStatus h hs hm ht)
    · exact absurd (tstep_of_rdData h.sound h.busy hp hm).1 (by simp [h.kind, isReadKind])
    · exact absurd (tstep_of_rdData h.sound h.busy hp hm).1 (by simp [h.kind, isReadKind])
    · rw [lockupFirst, ctrlWrite_disable] at ht
      subst ht
      exact .inl (startRuns_moved h hs (m := .lock1) h.busy rfl (by simp) (fun _ => h.failed (.inl hm)) (by simp))
    · exact .inl (startRuns_lockupSecond h hs hm ht)
    · exact .inr (startEnded_phaseDone h hs hm ht)

end

/-! ### The two commands -/

theorem step_of_start {i : Instr} {k : TStep} (hi : primitiveOf i = some (k, .start)) :
    (∀ a, primOfStep k a = some .start) ∧ firstPhase k = .t0 := by
  cases i <;> cases hi <;> exact ⟨fun _ => rfl, rfl⟩

theorem startRuns_begun {i : Instr} {k : TStep} {s : State} (hi : primitiveOf i = some (k, .start)) (hs : Sound s)
    (hb : s.busy = false) : StartRuns k s (begun i s) := by
  have hu := usesBus_of_primitive hi
  have hseq := seq_begun_primitive hi s
  have hbegins := begins_begun hi s
  obtain ⟨hto, -⟩ := begun_keeps i s hu
  obtain ⟨-, hphase⟩ := step_of_start hi
  rw [hphase] at hseq
  refine ⟨sound_begun i (between_of_ready hs hb) hu, hbegins.busy, hto, kindOf_begun_primitive hi s, ?_, ?_, ?_, ?_, ?_⟩
  all_goals simp [hseq]

/-- A command whose one primitive is `start`, ended under a schedule without a reset: by induction over the turns, with
`StartRuns` as the invariant until the command ends. -/
theorem startEnded_exec {i : Instr} {k : TStep} {s t : State} (hi : primitiveOf i = some (k, .start)) (hs : Sound s)
    (hr : noResets s.script = true) (h : exec i s = .next t) (hb : t.busy = false) : StartEnded (stepCode k) s t := by
  rw [exec_usesBus i s (usesBus_of_primitive hi)] at h
  obtain ⟨hb0, -, hrun⟩ := runCommand_cases (begun i) s t h
  obtain ⟨hk, -⟩ := step_of_start hi
  have hinv : StartRuns k s t ∨ StartEnded (stepCode k) s t := by
    refine runTurns_induct_noReset (fun u => StartRuns k s u ∨ StartEnded (stepCode k) s u) ?_ ?_ ?_ hr
      (.inl (startRuns_begun hi hs hb0)) hrun
    · rintro u u' (hu | hu) hbusy hstep
      · exact startRuns_microStep hu hstep hk
      · exact absurd hbusy (by simp [hu.notBusy])
    · rintro e u he (hu | hu) hbusy
      · exact .inl (startRuns_envStep e he hu)
      · exact absurd hbusy (by simp [hu.notBusy])
    · rintro l u (hu | hu)
      · have hsound := hu.sound
        exact .inl ⟨⟨hsound.params, hsound.memory, hsound.counts, hsound.sequencer, hsound.receive, hsound.control,
          hsound.lines⟩, hu.busy, hu.timeout, hu.kind, hu.step, hu.plain, hu.completed, hu.failed, hu.ended⟩
      · exact .inr ⟨hu.notBusy, hu.outcome⟩
  exact hinv.resolve_left fun hruns => by simp [hruns.busy] at hb

/-- Settles O22: both commands run the primitive `start`, as steps 1 and 4. -/
theorem startEndsInOneOfItsOutcomes : Obligations.StartEndsInOneOfItsOutcomes := by
  intro s t hs hr
  simp only [List.forall_mem_cons]
  exact ⟨fun h hb => (startEnded_exec (i := .start) rfl hs hr h hb).outcome,
    fun h hb => (startEnded_exec (i := .startR) rfl hs hr h hb).outcome, by simp⟩

end Sys2Proof.Machine
end

section
/-! PROOFS. The transactions, first part: a run cut into legs, the nominal bus's answer to each primitive, and what one
primitive of a transaction changes (41_transactions R150 to R168, 43_bus_side R201). -/
namespace Sys2Proof.Machine

/-- Settles O55: 0 counts as 1, and only a read without a caller's buffer is clamped. -/
theorem effectiveCountIsCoercedAndClamped : Obligations.EffectiveCountIsCoercedAndClamped := by
  intro cnt cap hcap
  have hcnt : cnt.toNat < 256 := cnt.isLt
  have hcaller (c : Byte) : effectiveCount c true cap = max c.toNat 1 := if_pos rfl
  have hbuffer (c : Byte) : effectiveCount c false cap = min (max c.toNat 1) cap := if_neg Bool.false_ne_true
  have hzero : max (0 : Byte).toNat 1 = max (1 : Byte).toNat 1 := rfl
  refine ⟨fun x => ?_, ?_, fun h => ?_, fun h h' => ?_, fun h => ?_⟩
  · cases x
    · simp only [hbuffer, hzero, and_true]
      omega
    · simp only [hcaller, hzero, and_true]
      omega
  · exact hbuffer cnt ▸ min_le_right _ _
  · rw [hcaller, max_eq_left h]
  · rw [hbuffer, max_eq_left h, min_eq_left h']
  · rw [hbuffer, min_eq_right (h.trans (le_max_left _ _))]

/-! ### Legs of a run -/

/-- The turns `ts` lead the running command from `u` to `u'`, whatever turns come after them. -/
def Leads (ts : List Turn) (u u' : State) : Prop := ∀ l, runTurns (ts ++ l) u = runTurns l u'

theorem Leads.trans {ts ts' : List Turn} {u u' u'' : State} (h : Leads ts u u') (h' : Leads ts' u' u'') :
    Leads (ts ++ ts') u u'' := fun l => by rw [List.append_assoc, h, h']

theorem leads_nil (u : State) : Leads [] u u := fun _ => rfl

theorem leads_engine {u u' : State} (hb : u.busy = true) (h : microStep u = .next u') : Leads (engineTurns 1) u u' :=
  fun l => runTurns_engine l u u' hb h

/-! ### What a primitive of a transaction can change -/

/-- `u` differs from `v` at most in the registers of the bus side, the latches of the primitive, the sequencer, the
trace and the counter of free values. -/
abbrev BusOnly (v u : State) : Prop :=
  u = { v with
    ctrl := u.ctrl, status := u.status, data := u.data, t0 := u.t0, saved := u.saved, seq := u.seq, outc := u.outc,
    held := u.held, mode := u.mode, pend := u.pend, line := u.line, ev := u.ev, free := u.free }

section
variable {v u u' : State}

theorem BusOnly.trans (h : BusOnly v u) (h' : BusOnly u u') : BusOnly v u' := by
  rw [h] at h'
  exact h'

variable (h : BusOnly v u)
include h

theorem BusOnly.busy : u.busy = v.busy := by rw [h]
theorem BusOnly.cfg : u.cfg = v.cfg := by rw [h]
theorem BusOnly.opc : u.opc = v.opc := by rw [h]
theorem BusOnly.timeout : u.timeout = v.timeout := by rw [h]
theorem BusOnly.now : u.now = v.now := by rw [h]
theorem BusOnly.sla : u.sla = v.sla := by rw [h]
theorem BusOnly.sel : u.sel = v.sel := by rw [h]
theorem BusOnly.txlen : u.txlen = v.txlen := by rw [h]
theorem BusOnly.txbuf : u.txbuf = v.txbuf := by rw [h]
theorem BusOnly.count : countOf u = countOf v := by rw [h]; rfl

end

theorem engineWrites_append (l l' : List Ev) : engineWrites (l ++ l') = engineWrites l ++ engineWrites l' :=
  List.filter_append ..

/-- A place in the sequence of primitives: step, micro-phase, position in step 3, loop index, no nested stop. -/
def stepPtr (k : TStep) (m : Mph) (g : Seg) (i : Byte) : SeqPtr where
  tstep := k
  mph := m
  idx := i
  nstop := false
  seg := g

/-- The command that began in `v` has come to the place `q` in `u`, the engine having made the writes `w`. -/
structure Runs (v : State) (q : SeqPtr) (w : List Ev) (u : State) : Prop where
  busy : v.busy = true
  params : v.cfg.Ok
  frame : BusOnly v u
  seq : u.seq = q
  writes : engineWrites u.ev = engineWrites v.ev ++ w

/-- And the bus is held, in the mode `m` (R51). -/
structure Stands (v : State) (q : SeqPtr) (m : XMode) (w : List Ev) (u : State) : Prop extends Runs v q w u where
  held : u.held = true
  mode : u.mode = m

theorem runs_self {v : State} (hb : v.busy = true) (hc : v.cfg.Ok) : Runs v v.seq [] v :=
  ⟨hb, hc, rfl, rfl, (List.append_nil _).symm⟩

theorem Runs.moved {v u u' : State} {q q' : SeqPtr} {w : List Ev} (h : Runs v q w u) (hframe : BusOnly u u')
    (hseq : u'.seq = q') (hev : u'.ev = u.ev) : Runs v q' w u' :=
  ⟨h.busy, h.params, h.frame.trans hframe, hseq, hev ▸ h.writes⟩

theorem Stands.next {v u : State} {q : SeqPtr} {m : XMode} {w : List Ev} (h : Stands v q m w u) (k : TStep) (g : Seg)
    (i : Byte) : Stands v (stepPtr k (firstPhase k) g i) m w (beginStep k g i u) :=
  ⟨h.toRuns.moved rfl rfl rfl, h.held, h.mode⟩

section
variable {v u : State} {k : TStep} {m : Mph} {g : Seg} {i : Byte} {w : List Ev} (h : Runs v (stepPtr k m g i) w u)
include h

theorem Runs.tstep : u.seq.tstep = k := by rw [h.seq]; rfl
theorem Runs.mph : u.seq.mph = m := by rw [h.seq]; rfl
theorem Runs.seg : u.seq.seg = g := by rw [h.seq]; rfl
theorem Runs.idx : u.seq.idx = i := by rw [h.seq]; rfl
theorem Runs.nstop : u.seq.nstop = false := by rw [h.seq]; rfl

end

/-- Which primitive runs is said by the place and the latches (R22). -/
theorem Runs.prim {v u : State} {q : SeqPtr} {w : List Ev} (h : Runs v q w u) :
    currentPrim u = currentPrim { v with seq := q } := by
  simp only [currentPrim, ackOf, h.frame.opc, h.frame.count, h.seq]
  rfl

theorem Runs.begins {v u : State} {k : TStep} {g : Seg} {i : Byte} {w : List Ev} {p : Prim}
    (h : Runs v (stepPtr k (firstPhase k) g i) w u) (hk : primOfStep k (ackOf u) = some p) : Begins p u := by
  refine ⟨h.frame.busy.trans h.busy, ?_, ?_⟩
  · rw [currentPrim, h.seq]
    exact hk
  · rw [h.seq]
    cases k <;> cases hk <;> rfl

/-! ### The nominal bus (R201) -/

/-- Two answers with the same effect on the armed action are interchangeable. -/
theorem runTurns_primTurns_congr {p : Prim} {u : State} (h : Begins p u) {a a' : EnvEvent}
    (he : envStep a (launched p u) = envStep a' (launched p u)) (l : List Turn) :
    runTurns (primTurns p a ++ l) u = runTurns (primTurns p a' ++ l) u := by
  have hb : (launched p u).busy = true := (launched_busy p u).trans h.busy
  obtain ⟨n, hn⟩ : ∃ n, ∀ e, primTurns p e = armTurns p ++ .env e :: engineTurns n := by
    cases p
    case stop => exact ⟨1, fun _ => rfl⟩
    all_goals exact ⟨2, fun _ => rfl⟩
  rw [hn, hn, List.append_assoc, List.append_assoc, runTurns_armTurns h, runTurns_armTurns h, List.cons_append,
    List.cons_append, runTurns_env _ _ _ hb, runTurns_env _ _ _ hb, he]

theorem envStep_nominal_start (ack : Bool) (b : Byte) (u : State) :
    envStep (.nominal ack b) (launched .start u) =
      answered .start (if u.held then u.cfg.stRepStart else u.cfg.stStart) b false u := by
  have hpend : (launched .start u).pend = .startAct := launched_pend .start u
  have hheld : (launched .start u).held = u.held := launched_held .start u
  have hcfg : (launched .start u).cfg = u.cfg := by rw [launched_eq]
  simp only [envStep, busNominal, launched_enabled, if_true, hpend, hheld, hcfg, answered]

/-- A transfer with a direction is answered by the table of R201, from the byte that stands in `DATA`. -/
theorem envStep_nominal_transfer {p : Prim} {u : State} (h : actionOf (armWord p) = .xferAct)
    (hdir : xferDir u.held u.mode ≠ .undefined) (ack : Bool) (b : Byte) :
    envStep (.nominal ack b) (launched p u) =
      answered p (nominalXfer u.cfg u.mode ((dataOperand p u).getD u.data) (ctrlEA (armedCtrl (armWord p))) ack) b false
        u := by
  have hpend : (launched p u).pend = .xferAct := (launched_pend p u).trans h
  have hheld : (launched p u).held = u.held := launched_held p u
  have hmode : (launched p u).mode = u.mode := launched_mode p u
  have hrest : (launched p u).cfg = u.cfg ∧ (launched p u).data = (dataOperand p u).getD u.data ∧
      (launched p u).ctrl = armedCtrl (armWord p) := by
    rw [launched_eq]
    exact ⟨rfl, rfl, rfl⟩
  obtain ⟨hcfg, hdata, hctrl⟩ := hrest
  have hen := launched_enabled p u
  simp only [envStep, busNominal, hen, if_true, hpend, hheld, hmode, hcfg, hdata, answered]
  rw [hctrl]
  cases hd : xferDir u.held u.mode
  case undefined => exact absurd hd hdir
  all_goals rfl

theorem envStep_nominal_stop (ack : Bool) (b : Byte) (u : State) :
    envStep (.nominal ack b) (launched .stop u) = envStep .sto (launched .stop u) := by
  have hpend : (launched .stop u).pend = .stopAct := launched_pend .stop u
  simp only [envStep, busNominal, busStop, launched_enabled, if_true, hpend]

/-! ### A primitive that succeeds -/

theorem phaseDone_ok {s : State} (hn : s.seq.nstop = false) (ho : s.outc = .ok) : phaseDone s = advance s := by
  simp [phaseDone, hn, checkOutcome, ho]

/-- The state in which `p` yields `Ok` after an answer with status `st` (R126). -/
def succeeded (p : Prim) (st b : Byte) (r : Bool) (u : State) : State :=
  gotoPhase .done { answered p st b r u with saved := st, outc := .ok }

theorem engineWrites_primitive (p : Prim) (u : State) (l : List Ev) (st : Byte) (d : Option Byte) :
    engineWrites (l ++ dataWrites p u ++ [.ctrl (armWord p), .done st d]) =
      engineWrites l ++ (dataWrites p u ++ [.ctrl (armWord p)]) := by
  rw [List.append_assoc, engineWrites_append, dataWrites]
  cases dataOperand p u <;> rfl

/-- The answer's effect on the registers of the bus side (R194, R200). -/
theorem answered_bus {p : Prim} (hp : p ≠ .stop) (st b : Byte) (r : Bool) (u : State) :
    (answered p st b r u).held = heldAfter u.cfg st u.held ∧ (answered p st b r u).mode = modeAfter u.cfg st u.mode ∧
      (answered p st b r u).data = (receivedByte p b r u).getD ((dataOperand p u).getD u.data) ∧
      (answered p st b r u).status = st := by
  obtain ⟨l, hl⟩ := answered_eq hp st b r u
  rw [hl]
  exact ⟨rfl, rfl, rfl, rfl⟩

/-- An answered primitive has made its own writes and nothing more (R121). -/
theorem Runs.afterAnswer {v u : State} {q : SeqPtr} {w : List Ev} {p : Prim} (h : Runs v q w u) (hp : p ≠ .stop)
    (st b : Byte) (r : Bool) :
    Runs v { q with mph := .poll } (w ++ (dataWrites p u ++ [.ctrl (armWord p)])) (answered p st b r u) := by
  obtain ⟨l, hl⟩ := answered_eq hp st b r u
  rw [hl]
  refine ⟨h.busy, h.params, h.frame.trans rfl, by rw [h.seq], ?_⟩
  rw [engineWrites_primitive, h.writes, List.append_assoc]

theorem Runs.classify_answered {v u : State} {q : SeqPtr} {w : List Ev} {p : Prim} (h : Runs v q w u) (hp : p ≠ .stop)
    (st b : Byte) (r : Bool) :
    classify (answered p st b r u).cfg p (answered p st b r u).status = classify v.cfg p st := by
  obtain ⟨-, -, -, hstatus⟩ := answered_bus hp st b r u
  rw [hstatus, (h.afterAnswer hp st b r).frame.cfg]

section
variable {v u : State} {k : TStep} {g : Seg} {i : Byte} {m : XMode} {w : List Ev} {p : Prim} {a : EnvEvent}
  {st b : Byte} {r : Bool} (h : Runs v (stepPtr k (firstPhase k) g i) w u) (hp : p ≠ .stop)
include h hp

theorem Runs.afterSuccess (st b : Byte) (r : Bool) :
    Runs v (stepPtr k .done g i) (w ++ (dataWrites p u ++ [.ctrl (armWord p)])) (succeeded p st b r u) :=
  have ha := h.afterAnswer hp st b r
  ha.moved rfl (congrArg (fun q => { q with mph := .done }) ha.seq) rfl

/-- What a primitive that succeeds has changed. -/
theorem Runs.stands_succeeded (hheld : heldAfter v.cfg st u.held = true) (hmode : modeAfter v.cfg st u.mode = m) :
    Stands v (stepPtr k .done g i) m (w ++ (dataWrites p u ++ [.ctrl (armWord p)])) (succeeded p st b r u) := by
  obtain ⟨hanswerHeld, hanswerMode, -⟩ := answered_bus hp st b r u
  rw [h.frame.cfg, hheld] at hanswerHeld
  rw [h.frame.cfg, hmode] at hanswerMode
  exact ⟨h.afterSuccess hp st b r, hanswerHeld, hanswerMode⟩

/-- A primitive with a success status goes on to the transaction's next (R150). -/
theorem Runs.leads_advance (hk : primOfStep k (ackOf u) = some p) (ha : envStep a (launched p u) = answered p st b r u)
    (hv : classify v.cfg p st = .success) :
    Leads (primTurns p a ++ engineTurns 1) u (advance (succeeded p st b r u)) := by
  have hbegins := h.begins hk
  have hs : phaseStatus p (gotoPhase .status (answered p st b r u)) = succeeded p st b r u :=
    phaseStatus_of_success (s := gotoPhase .status (answered p st b r u)) ((h.classify_answered hp st b r).trans hv)
  have hsucc := h.afterSuccess hp st b r
  have hprim : currentPrim (succeeded p st b r u) = some p := hsucc.prim.trans (h.prim.symm.trans hbegins.prim)
  have hdone : microStep (succeeded p st b r u) = .next (advance (succeeded p st b r u)) := by
    rw [microStep_done _ p hprim rfl, phaseDone_ok hsucc.nstop rfl]
  intro l
  rw [List.append_assoc, runTurns_primTurns_congr hbegins (ha.trans (envStep_done_launched hp st b r u).symm),
    runTurns_primTurns hbegins hp, hs, leads_engine (hsucc.frame.busy.trans h.busy) hdone]

theorem Runs.succeeds (hk : primOfStep k (ackOf u) = some p) (ha : envStep a (launched p u) = answered p st b r u)
    (hv : classify v.cfg p st = .success) (hheld : heldAfter v.cfg st u.held = true)
    (hmode : modeAfter v.cfg st u.mode = m) :
    Leads (primTurns p a ++ engineTurns 1) u (advance (succeeded p st b r u)) ∧
      Stands v (stepPtr k .done g i) m (w ++ (dataWrites p u ++ [.ctrl (armWord p)])) (succeeded p st b r u) :=
  ⟨h.leads_advance hp hk ha hv, h.stands_succeeded hp hheld hmode⟩

end

end Sys2Proof.Machine
end

section
/-! PROOFS. The transactions, second part: each primitive of a transaction on the nominal bus, the loops of sends and of
receives, and the final stop (41_transactions R152 to R166). -/
namespace Sys2Proof.Machine

/-! ### The order of the primitives (R152, R158, R164) -/

section
variable {s : State}

/-- `WRITE` and `RREAD` begin alike: the address in write direction, then the selector, high byte first. -/
theorem advance_opening_start (hk : kindOf s.opc = .write ∨ kindOf s.opc = .rread) (ht : s.seq.tstep = .start) :
    advance s = beginStep .addressWrite .payload 0 s := by
  rcases hk with hk | hk <;> simp [advance, hk, advanceWrite, advanceRRead, ht]

theorem advance_opening_address (hk : kindOf s.opc = .write ∨ kindOf s.opc = .rread)
    (ht : s.seq.tstep = .addressWrite) : advance s = beginStep .dataSend (firstSel s.opc) 0 s := by
  rcases hk with hk | hk <;> simp [advance, hk, advanceWrite, advanceRRead, ht, beginSelector]

theorem advance_opening_selHi (hk : kindOf s.opc = .write ∨ kindOf s.opc = .rread) (ht : s.seq.tstep = .dataSend)
    (hg : s.seq.seg = .selHi) : advance s = beginStep .dataSend .selLo 0 s := by
  rcases hk with hk | hk <;> simp [advance, hk, advanceWrite, advanceRRead, ht, hg]

/-- In a `WRITE` the payload follows the selector. -/
theorem advance_write_selLo (hk : kindOf s.opc = .write) (ht : s.seq.tstep = .dataSend) (hg : s.seq.seg = .selLo) :
    advance s = payloadOrStop 0 s := by
  simp [advance, hk, advanceWrite, ht, hg]

theorem advance_write_payload (hk : kindOf s.opc = .write) (ht : s.seq.tstep = .dataSend)
    (hg : s.seq.seg = .payload) : advance s = payloadOrStop (s.seq.idx + 1) s := by
  simp [advance, hk, advanceWrite, ht, hg]

theorem advance_read_start (hk : kindOf s.opc = .read) (ht : s.seq.tstep = .start) :
    advance s = beginStep .addressRead .payload 0 s := by
  simp [advance, hk, advanceRead, ht]

/-- In an `RREAD` the repeated start follows the selector. -/
theorem advance_rread_selLo (hk : kindOf s.opc = .rread) (ht : s.seq.tstep = .dataSend) (hg : s.seq.seg = .selLo) :
    advance s = beginStep .repeatedStart .payload 0 s := by
  simp [advance, hk, advanceRRead, ht, hg]

theorem advance_rread_repeatedStart (hk : kindOf s.opc = .rread) (ht : s.seq.tstep = .repeatedStart) :
    advance s = beginStep .addressRead .payload 0 s := by
  simp [advance, hk, advanceRRead, ht]

theorem isReadKind_iff (k : CmdKind) : isReadKind k = true ↔ k = .read ∨ k = .rread := by
  cases k <;> simp [isReadKind]

/-- Both reads receive after the address in read direction. -/
theorem advance_addressRead (hk : isReadKind (kindOf s.opc) = true) (ht : s.seq.tstep = .addressRead) :
    advance s = beginStep .dataReceive .payload 0 s := by
  rcases (isReadKind_iff _).mp hk with hk | hk <;> simp [advance, hk, advanceRead, advanceRRead, ht]

/-- And store each byte they have received (R160). -/
theorem advance_dataReceive (hk : isReadKind (kindOf s.opc) = true) (ht : s.seq.tstep = .dataReceive) :
    advance s = gotoPhase .rdData s := by
  rcases (isReadKind_iff _).mp hk with hk | hk <;> simp [advance, hk, advanceRead, advanceRRead, ht]

theorem advance_stop (ht : s.seq.tstep = .stop) : advance s = finish 0 s := by
  cases h : kindOf s.opc
  all_goals simp [advance, h, advanceWrite, advanceRead, advanceRRead, ht]

end

/-! ### One primitive on the nominal bus -/

theorem sendLoop_succ (n : Nat) : sendLoop (n + 1) = sendLoop 1 ++ sendLoop n := by
  simp [sendLoop]

theorem sendLoop_add (n k : Nat) : sendLoop (n + k) = sendLoop n ++ sendLoop k := by
  induction n with
  | zero => rw [Nat.zero_add]; rfl
  | succ n ih => rw [Nat.add_right_comm, sendLoop_succ, ih, sendLoop_succ n, List.append_assoc]

theorem receiveLoop_cons (b : Byte) (bs : List Byte) : receiveLoop (b :: bs) = receiveLoop [b] ++ receiveLoop bs := by
  simp [receiveLoop]

section
variable {v u : State} {g : Seg} {i : Byte} {w : List Ev}

/-- A start on the nominal bus, first or repeated (R130, R201). -/
theorem leads_start {k : TStep} (hk : k = .start ∨ k = .repeatedStart)
    (h : Runs v (stepPtr k (firstPhase k) g i) w u) :
    ∃ u', Leads nominalStart u (advance u') ∧ Stands v (stepPtr k .done g i) .noMode (w ++ [.ctrl 0b10101]) u' := by
  have hst : (if u.held then u.cfg.stRepStart else u.cfg.stStart) = v.cfg.stStart ∨
      (if u.held then u.cfg.stRepStart else u.cfg.stStart) = v.cfg.stRepStart := by
    rw [h.frame.cfg]
    cases u.held <;> simp
  have hprim : primOfStep k (ackOf u) = some .start := by rcases hk with rfl | rfl <;> rfl
  exact ⟨_, h.succeeds (p := .start) (by simp) hprim (envStep_nominal_start true 0 u) (if_pos hst)
    (heldAfter_of_start hst _) (modeAfter_of_start hst _)⟩

theorem addressByte_direction (a : SlaveAddr) (d : Bool) : (addressByte a d).getLsbD 0 = d := by
  revert a d
  decide

/-- The address phase on the nominal bus goes by the direction bit of the address byte (R201). -/
theorem nominalXfer_address (cfg : Params) (a : SlaveAddr) (d ea ack : Bool) :
    nominalXfer cfg .noMode (addressByte a d) ea ack =
      if d then (if ack then cfg.stMrSlaAck else cfg.stMrSlaNack)
      else (if ack then cfg.stMtSlaAck else cfg.stMtSlaNack) := by
  rw [nominalXfer, addressByte_direction]

theorem envStep_nominal_address {q : SeqPtr} {d : Bool} (h : Stands v q .noMode w u) (ack : Bool) (b : Byte) :
    envStep (.nominal ack b) (launched (.addr d) u) =
      answered (.addr d) (nominalXfer v.cfg .noMode (addressByte v.sla d) false ack) b false u := by
  have hdir : xferDir u.held u.mode ≠ .undefined := by simp [h.held, h.mode, xferDir]
  rw [envStep_nominal_transfer (p := .addr d) (by cases d <;> rfl) hdir, h.mode, h.frame.cfg, dataOperand, h.frame.sla]
  rfl

/-- An address somebody acknowledges (R133, R201). -/
theorem leads_address {k : TStep} {d : Bool} (hk : k = if d then .addressRead else .addressWrite)
    (h : Stands v (stepPtr k (firstPhase k) g i) .noMode w u) :
    ∃ u', Leads (sendLoop 1) u (advance u') ∧
      Stands v (stepPtr k .done g i) (if d then .mr else .mt) (w ++ sendWrites [addressByte v.sla d]) u' := by
  obtain ⟨-, -, hmtHeld, -, -, -, -, hmrHeld, -⟩ := heldAfter_named v.cfg h.params u.held
  obtain ⟨-, -, hmtMode, -, -, -, -, hmrMode, -⟩ := modeAfter_named v.cfg h.params u.mode
  have hprim : primOfStep k (ackOf u) = some (.addr d) := by subst hk; cases d <;> rfl
  have ha := envStep_nominal_address (d := d) h true 0
  have hwrites : dataWrites (.addr d) u ++ [.ctrl (armWord (.addr d))] = sendWrites [addressByte v.sla d] := by
    rw [← h.frame.sla]
    rfl
  rw [nominalXfer_address] at ha
  rw [← hwrites]
  cases d
  · exact ⟨_, h.succeeds (by simp) hprim ha (if_pos rfl) (hmtHeld.trans h.held) hmtMode⟩
  · exact ⟨_, h.succeeds (by simp) hprim ha (if_pos rfl) (hmrHeld.trans h.held) hmrMode⟩

/-- A byte the slave acknowledges (R136, R201). -/
theorem leads_byte {x : Byte} (h : Stands v (stepPtr .dataSend .data g i) .mt w u) (hx : sendOperand u = x) :
    ∃ u', Leads (sendLoop 1) u (advance u') ∧
      Stands v (stepPtr .dataSend .done g i) .mt (w ++ sendWrites [x]) u' := by
  obtain ⟨-, -, -, -, hheld, -⟩ := heldAfter_named v.cfg h.params u.held
  obtain ⟨-, -, -, -, hmode, -⟩ := modeAfter_named v.cfg h.params u.mode
  have hdir : xferDir u.held u.mode ≠ .undefined := by simp [h.mode, xferDir]
  have ha := envStep_nominal_transfer (p := .byte) rfl hdir true 0
  rw [h.mode, h.frame.cfg] at ha
  subst hx
  exact ⟨_, h.succeeds (p := .byte) (by simp) rfl ha (if_pos rfl) (hheld.trans h.held) (hmode.trans h.mode)⟩

end

/-! ### The address and the selector of a `WRITE` or an `RREAD` -/

/-- The selector bytes a command sends (R152, R164). -/
def selectorBytes (v : State) : List Byte := if flag0 v.opc then [hiByte v.sel, loByte v.sel] else [loByte v.sel]

theorem leads_opening {v : State} (hk : kindOf v.opc = .write ∨ kindOf v.opc = .rread)
    (hseq : v.seq = stepPtr .start .t0 .payload 0) (hb : v.busy = true) (hc : v.cfg.Ok) :
    ∃ u, Leads (nominalStart ++ sendLoop (1 + (selectorBytes v).length)) v (advance u) ∧
      Stands v (stepPtr .dataSend .done .selLo 0) .mt
        ([.ctrl 0b10101] ++ sendWrites (addressByte v.sla false :: selectorBytes v)) u := by
  obtain ⟨u₁, l₁, h₁⟩ := leads_start (.inl rfl) (hseq ▸ runs_self hb hc)
  rw [advance_opening_start (by rwa [h₁.frame.opc]) h₁.tstep] at l₁
  obtain ⟨u₂, l₂, h₂⟩ := leads_address (d := false) rfl (h₁.next .addressWrite .payload 0)
  rw [advance_opening_address (by rwa [h₂.frame.opc]) h₂.tstep, h₂.frame.opc, firstSel] at l₂
  rw [selectorBytes]
  cases hw : flag0 v.opc
  · rw [hw] at l₂
    obtain ⟨u₃, l₃, h₃⟩ := leads_byte (h₂.next .dataSend .selLo 0) (congrArg loByte h₂.frame.sel)
    exact ⟨u₃, (l₁.trans l₂).trans l₃, h₃⟩
  · rw [hw] at l₂
    obtain ⟨u₃, l₃, h₃⟩ := leads_byte (h₂.next .dataSend .selHi 0) (congrArg hiByte h₂.frame.sel)
    rw [advance_opening_selHi (by rwa [h₃.frame.opc]) h₃.tstep h₃.seg] at l₃
    obtain ⟨u₄, l₄, h₄⟩ := leads_byte (h₃.next .dataSend .selLo 0) (congrArg loByte h₃.frame.sel)
    exact ⟨u₄, (l₁.trans (l₂.trans l₃)).trans l₄, h₄⟩
end Sys2Proof.Machine
end

section
/-! PROOFS. The transactions, third part: the loops of sends and of receives, and the final stop (41_transactions R152,
R158, R160, R161). -/
namespace Sys2Proof.Machine

/-! ### The payload of a `WRITE` (R152) -/

theorem payloadOrStop_of_lt {s : State} {i : Byte} (h : i.toNat < s.txlen.toNat) :
    payloadOrStop i s = beginStep .dataSend .payload i s := if_pos h

theorem payloadOrStop_of_eq {s : State} {i : Byte} (h : i.toNat = s.txlen.toNat) :
    payloadOrStop i s = beginStep .stop .payload s.seq.idx s := if_neg (by omega)

/-- The payload bytes from index `j` on, up to the final stop. -/
theorem leads_payload {v u : State} {d : List Byte} {j : Nat} {g : Seg} {i : Byte} {w : List Ev}
    (hk : kindOf v.opc = .write) (hlen : j + d.length = v.txlen.toNat)
    (hd : ∀ n < d.length, v.txbuf.read (j + n) = d.getD n 0) (h : Stands v (stepPtr .dataSend .done g i) .mt w u) :
    ∃ u' i', Leads (sendLoop d.length) (payloadOrStop (BitVec.ofNat 8 j) u) u' ∧
      Stands v (stepPtr .stop .t0 .payload i') .mt (w ++ sendWrites d) u' := by
  have hindex {j' : Nat} (h' : j' ≤ v.txlen.toNat) : (BitVec.ofNat 8 j').toNat = j' :=
    (BitVec.toNat_ofNat j' 8).trans (Nat.mod_eq_of_lt (h'.trans_lt v.txlen.isLt))
  induction d generalizing j u g i w with
  | nil =>
    rw [payloadOrStop_of_eq (by rw [hindex (by omega), h.frame.txlen]; exact hlen)]
    have hnone : w ++ sendWrites [] = w := List.append_nil w
    exact ⟨_, u.seq.idx, leads_nil _, hnone.symm ▸ h.next .stop .payload u.seq.idx⟩
  | cons x d ih =>
    rw [List.length_cons] at hlen
    have hj : (BitVec.ofNat 8 j).toNat = j := hindex (by omega)
    rw [payloadOrStop_of_lt (by rw [hj, h.frame.txlen]; omega)]
    have hx : sendOperand (beginStep .dataSend .payload (BitVec.ofNat 8 j) u) = x := by
      have := hd 0 (by simp)
      simpa [sendOperand, hj, h.frame.txbuf] using this
    obtain ⟨u₁, l₁, h₁⟩ := leads_byte (h.next .dataSend .payload (BitVec.ofNat 8 j)) hx
    rw [advance_write_payload (by rwa [h₁.frame.opc]) h₁.tstep h₁.seg, h₁.idx] at l₁
    have hshift : ∀ n < d.length, v.txbuf.read (j + 1 + n) = d.getD n 0 := by
      intro n hn
      rw [Nat.add_assoc, Nat.add_comm 1, hd (n + 1) (by simpa using hn), List.getD_cons_succ]
    obtain ⟨u', i', l', h'⟩ := ih (by omega) hshift h₁
    rw [BitVec.ofNat_add] at l'
    refine ⟨u', i', ?_, ?_⟩
    · rw [List.length_cons, sendLoop_succ]
      exact l₁.trans l'
    · rw [List.append_assoc] at h'
      exact h'

/-! ### The end of a transaction -/

/-- The bus side is at rest in `x` with `CTRL = c`: no action is pending and the bus is not held. -/
structure Quiet (v : State) (c : Ctrl) (w : List Ev) (x : State) : Prop where
  frame : BusOnly v x
  ctrl : x.ctrl = c
  pend : x.pend = .noAct
  held : x.held = false
  writes : engineWrites x.ev = engineWrites v.ev ++ w

/-- The command that began in `v` has ended in `t` with return code `c`, the controller idle, everything but the bus
side and the response as in `v` (R115, R151, R168). -/
structure Ended (v t : State) (c : Byte) (ct : Ctrl) (w : List Ev) (rest : List Turn) : Prop where
  idle : EndedIdle v t c ct rest
  receive : ReceiveUntouched v t
  rxout : t.rxout = v.rxout
  payload : PayloadUntouched v t
  cnt : t.cnt = v.cnt
  writes : engineWrites t.ev = engineWrites v.ev ++ w

theorem Quiet.ended {v x : State} {ct : Ctrl} {w : List Ev} (h : Quiet v ct w x) (hct : ct = 0b00001 ∨ ct = 0b00011)
    (c : Byte) (rest : List Turn) : Ended v { finish c x with script := rest } c ct w rest := by
  obtain ⟨hframe, rfl, hpend, hheld, hwrites⟩ := h
  have hidle : Idle { finish c x with script := rest } := by
    rcases hct with hct | hct
    all_goals simp [Idle, hct, hpend, hheld, ctrlEN, ctrlSTA, ctrlSTO, ctrlCF]
  have hev : engineWrites (x.ev ++ [.rsp c]) = engineWrites v.ev ++ w := by
    rw [engineWrites_append, hwrites]
    exact List.append_nil _
  rw [hframe] at hidle ⊢
  exact ⟨⟨rfl, rfl, rfl, hidle, rfl, rfl, rfl, rfl, rfl, rfl⟩, ⟨rfl, rfl, rfl, rfl⟩, rfl, ⟨rfl, rfl⟩, rfl, hev⟩

/-- The state in which a completed stop yields `Ok` (R143). -/
def stopped (u : State) : State := gotoPhase .done { completeStop (launched .stop u) with outc := .ok }

theorem stopped_frame (u : State) :
    (stopped u).busy = u.busy ∧ (stopped u).saved = u.saved ∧ (stopped u).seq = { u.seq with mph := .done } := by
  obtain ⟨l, hl⟩ := completeStop_launched u
  rw [stopped, hl]
  exact ⟨rfl, rfl, rfl⟩

theorem Runs.quiet_stopped {v u : State} {q : SeqPtr} {w : List Ev} (h : Runs v q w u) :
    Quiet v 0b00001 (w ++ [.ctrl 0b11001]) (stopped u) := by
  obtain ⟨l, hl⟩ := completeStop_launched u
  rw [stopped, hl]
  refine ⟨h.frame.trans rfl, rfl, rfl, rfl, ?_⟩
  simp only [gotoPhase, engineWrites_append, h.writes, List.append_assoc]
  rfl

/-- A primitive that yields the end of its command. -/
theorem runTurns_finishes {x : State} {p : Prim} {c : Byte} (hb : x.busy = true) (hp : currentPrim x = some p)
    (hm : x.seq.mph = .done) (hd : phaseDone x = finish c x) (rest : List Turn) :
    runTurns (engineTurns 1 ++ rest) x = .next { finish c x with script := rest } := by
  rw [leads_engine hb (microStep_done x p hp hm), hd, runTurns_ended _ _ rfl]

/-- The final stop on the nominal bus ends the command with return code 0 (R151, R152). -/
theorem ends_nominalStop {v u : State} {g : Seg} {i : Byte} {w : List Ev} (h : Runs v (stepPtr .stop .t0 g i) w u)
    (rest : List Turn) :
    ∃ t, runTurns (nominalStop ++ rest) u = .next t ∧ Ended v t 0 0b00001 (w ++ [.ctrl 0b11001]) rest ∧
      t.now = v.now := by
  have hbegins : Begins .stop u := h.begins rfl
  have hprim : currentPrim (stopped u) = some .stop := (currentPrim_launched .stop u).trans hbegins.prim
  obtain ⟨hb, -, hseq⟩ := stopped_frame u
  have hdone : phaseDone (stopped u) = finish 0 (stopped u) := by
    rw [phaseDone_ok (by rw [hseq, h.seq]; rfl) rfl, advance_stop (by rw [hseq, h.seq]; rfl)]
  refine ⟨_, ?_, h.quiet_stopped.ended (.inl rfl) 0 rest, h.quiet_stopped.frame.now⟩
  calc runTurns (nominalStop ++ rest) u
    _ = runTurns (engineTurns 1 ++ rest) (stopped u) := by
      rw [nominalStop, List.append_assoc]
      exact (runTurns_primTurns_congr hbegins (envStep_nominal_stop true 0 u) _).trans (runTurns_stopTurns hbegins _)
    _ = .next { finish 0 (stopped u) with script := rest } :=
      runTurns_finishes (hb.trans hbegins.busy) hprim rfl hdone rest

/-! ### The receive loop (R158, R160, R161) -/

/-- `v` with the bytes `bs` delivered from index `j` on: appended to the caller's buffer, or stored in the ReceiveBuffer
and counted (R160). -/
def delivered (j : Nat) (bs : List Byte) (v : State) : State :=
  if flagX v.opc then { v with rxout := v.rxout ++ bs }
  else { v with
    rxbuf := v.rxbuf.writeList j bs, avail := v.avail + BitVec.ofNat 8 bs.length,
    total := v.total + BitVec.ofNat 8 bs.length }

theorem delivered_caller {v : State} (hx : flagX v.opc = true) (j : Nat) (bs : List Byte) :
    delivered j bs v = { v with rxout := v.rxout ++ bs } := if_pos hx

theorem delivered_buffer {v : State} (hx : flagX v.opc = false) (j : Nat) (bs : List Byte) :
    delivered j bs v = { v with
      rxbuf := v.rxbuf.writeList j bs, avail := v.avail + BitVec.ofNat 8 bs.length,
      total := v.total + BitVec.ofNat 8 bs.length } := if_neg (by simp [hx])

theorem delivered_nil (j : Nat) (v : State) : delivered j [] v = v := by
  rw [delivered]
  split
  · simp
  · simp [Memory.writeList]

theorem delivered_cons (j : Nat) (b : Byte) (bs : List Byte) (v : State) :
    delivered j (b :: bs) v = delivered (j + 1) bs (delivered j [b] v) := by
  have hlen : BitVec.ofNat 8 (bs.length + 1) = 1#8 + BitVec.ofNat 8 bs.length := by
    rw [BitVec.ofNat_add, BitVec.add_comm]
  cases hx : flagX v.opc
  · simp [delivered, hx, Memory.writeList, hlen, BitVec.add_assoc]
  · simp [delivered, hx]

/-- Delivered bytes change the caller's buffer or the ReceiveBuffer alone. -/
theorem delivered_keeps (j : Nat) (bs : List Byte) (v : State) :
    ∃ m a n l, delivered j bs v = { v with rxbuf := m, avail := a, total := n, rxout := l } := by
  rw [delivered]
  split
  · exact ⟨_, _, _, _, rfl⟩
  · exact ⟨_, _, _, _, rfl⟩

/-- In a read the acknowledge bit says whether another byte is wanted (R161). -/
theorem ackOf_read {s : State} (hk : isReadKind (kindOf s.opc) = true) :
    ackOf s = decide (s.seq.idx.toNat + 1 ≠ countOf s) := by
  rcases (isReadKind_iff _).mp hk with hk | hk <;> rw [ackOf, hk]

/-- The state after the byte in `DATA` has been stored (R160). -/
def byteStored (s : State) : State := if flagX s.opc then rxAppend s.data s else storeByte s

theorem microStep_store {s : State} {p : Prim} (hp : currentPrim s = some p) (hm : s.seq.mph = .rdData)
    (hi : flagX s.opc = false → s.seq.idx.toNat < s.cfg.rxcap) : microStep s = .next (nextReceive (byteStored s)) := by
  rw [microStep, hp, hm, byteStored]
  cases hx : flagX s.opc
  · simp [phaseRdData, hx, hi hx]
  · simp [phaseRdData, hx]

theorem Stands.stored {v x : State} {i : Byte} {w : List Ev}
    (h : Stands v (stepPtr .dataReceive .rdData .payload i) .mr w x) :
    Stands (delivered i.toNat [x.data] v) (stepPtr .dataReceive .rdData .payload i) .mr w (byteStored x) := by
  obtain ⟨⟨hb, hc, hframe, hseq, hwrites⟩, hheld, hmode⟩ := h
  have hi : x.seq.idx = i := by rw [hseq]; rfl
  subst hi
  rw [byteStored, delivered, hframe.opc]
  cases flagX v.opc
  · exact ⟨⟨hb, hc, congrArg storeByte hframe, hseq, hwrites⟩, hheld, hmode⟩
  · have hev : engineWrites (x.ev ++ [.rx x.data]) = engineWrites v.ev ++ w := by
      rw [engineWrites_append, hwrites]
      exact List.append_nil _
    exact ⟨⟨hb, hc, congrArg (rxAppend x.data) hframe, hseq, hev⟩, hheld, hmode⟩

section
variable {v u : State} {m : Mph} {i : Byte} {w : List Ev} {ack : Bool} (hk : isReadKind (kindOf v.opc) = true)
  (hack : decide (i.toNat + 1 ≠ countOf v) = ack)
include hk

theorem Runs.receives (h : Runs v (stepPtr .dataReceive m .payload i) w u) :
    primOfStep .dataReceive (ackOf u) = some (.recv (decide (i.toNat + 1 ≠ countOf v))) := by
  rw [primOfStep, ackOf_read (by rwa [h.frame.opc]), h.frame.count, h.seq]
  rfl

include hack

/-- One byte received on the nominal bus, with the acknowledge bit the engine armed (R139, R201). -/
theorem leads_received (b : Byte) (h : Stands v (stepPtr .dataReceive .t0 .payload i) .mr w u) :
    ∃ u', Leads (shortTurns (.nominal true b) ++ engineTurns 1) u (advance u') ∧
      Stands v (stepPtr .dataReceive .done .payload i) .mr (w ++ [.ctrl (armWord (.recv ack))]) u' ∧ u'.data = b := by
  obtain ⟨-, -, -, -, -, -, -, -, -, hackHeld, hnackHeld⟩ := heldAfter_named v.cfg h.params u.held
  obtain ⟨-, -, -, -, -, -, -, -, -, hackMode, hnackMode⟩ := modeAfter_named v.cfg h.params u.mode
  have hprim := h.receives hk
  have hdir : xferDir u.held u.mode = .receive := by rw [h.mode]; rfl
  have hact : actionOf (armWord (.recv ack)) = .xferAct := by cases ack <;> rfl
  have ha := envStep_nominal_transfer (p := .recv ack) hact (by rw [hdir]; simp) true b
  have hdata (st : Byte) : (succeeded (.recv ack) st b false u).data = b := by
    obtain ⟨-, -, hd, -⟩ := answered_bus (p := .recv ack) (by simp) st b false u
    exact hd.trans (by rw [receivedByte_of_receive b false hact hdir]; rfl)
  rw [h.mode, h.frame.cfg] at ha
  rw [hack] at hprim
  cases ack
  · obtain ⟨l, hs⟩ := h.succeeds (by simp) hprim ha (if_pos rfl) (hnackHeld.trans h.held) (hnackMode.trans h.mode)
    exact ⟨_, l, hs, hdata _⟩
  · obtain ⟨l, hs⟩ := h.succeeds (by simp) hprim ha (if_pos rfl) (hackHeld.trans h.held) (hackMode.trans h.mode)
    exact ⟨_, l, hs, hdata _⟩

/-- And stored: the ReceiveBuffer has room for it (R63, R160). -/
theorem leads_stored (b : Byte) (hi : i.toNat < countOf v)
    (h : Stands v (stepPtr .dataReceive .t0 .payload i) .mr w u) :
    ∃ u', Leads (receiveLoop [b]) u (nextReceive u') ∧
      Stands (delivered i.toNat [b] v) (stepPtr .dataReceive .rdData .payload i) .mr
        (w ++ [.ctrl (armWord (.recv ack))]) u' := by
  obtain ⟨u₁, l₁, h₁, rfl⟩ := leads_received hk hack b h
  rw [advance_dataReceive (by rwa [h₁.frame.opc]) h₁.tstep] at l₁
  have h₂ : Stands v (stepPtr .dataReceive .rdData .payload i) .mr (w ++ [.ctrl (armWord (.recv ack))])
      (gotoPhase .rdData u₁) :=
    ⟨h₁.toRuns.moved rfl (congrArg (fun q => { q with mph := .rdData }) h₁.seq) rfl, h₁.held, h₁.mode⟩
  have hprim : currentPrim (gotoPhase .rdData u₁) = some (.recv (decide (i.toNat + 1 ≠ countOf v))) := by
    rw [currentPrim, h₂.seq]
    exact h₂.receives hk
  have hroom : flagX (gotoPhase .rdData u₁).opc = false → (gotoPhase .rdData u₁).seq.idx.toNat <
      (gotoPhase .rdData u₁).cfg.rxcap := by
    rw [h₂.frame.opc, h₂.frame.cfg, h₂.seq]
    exact fun hx => hi.trans_le (countOf_le_rxcap hx)
  have l₂ := leads_engine (h₂.frame.busy.trans h.busy) (microStep_store hprim h₂.mph hroom)
  refine ⟨_, ?_, h₂.stored⟩
  rw [receiveLoop, receiveLoop, List.append_nil]
  exact l₁.trans l₂
  
end

/-! ### The whole loop -/

theorem countOf_delivered (j : Nat) (bs : List Byte) (v : State) : countOf (delivered j bs v) = countOf v := by
  obtain ⟨m, a, n, l, h⟩ := delivered_keeps j bs v
  rw [h]
  rfl

theorem opc_delivered (j : Nat) (bs : List Byte) (v : State) : (delivered j bs v).opc = v.opc := by
  obtain ⟨m, a, n, l, h⟩ := delivered_keeps j bs v
  rw [h]

/-- An effective count fits the loop index (R157). -/
theorem countOf_le (v : State) : countOf v ≤ 255 := by
  have hcnt := v.cnt.isLt
  rw [countOf, effectiveCount]
  split
  all_goals omega

theorem toNat_index {v : State} {j : Nat} (hj : j < countOf v) : (BitVec.ofNat 8 j).toNat = j := by
  have := countOf_le v
  rw [BitVec.toNat_ofNat, Nat.mod_eq_of_lt (by omega)]

theorem nextReceive_of_lt {x : State} (h : x.seq.idx.toNat + 1 < countOf x) :
    nextReceive x = beginStep .dataReceive .payload (x.seq.idx + 1) x := if_pos h

theorem nextReceive_of_last {x : State} (h : x.seq.idx.toNat + 1 = countOf x) :
    nextReceive x = beginStep .stop .payload x.seq.idx x := if_neg (by omega)

/-- Bytes before the last, from index `j` on: each acknowledged and stored. -/
theorem leads_receives {v u : State} {j : Nat} {bs : List Byte} {w : List Ev} (hk : isReadKind (kindOf v.opc) = true)
    (hlen : j + bs.length < countOf v)
    (h : Stands v (stepPtr .dataReceive .t0 .payload (BitVec.ofNat 8 j)) .mr w u) :
    ∃ u', Leads (receiveLoop bs) u u' ∧
      Stands (delivered j bs v) (stepPtr .dataReceive .t0 .payload (BitVec.ofNat 8 (j + bs.length))) .mr
        (w ++ List.replicate bs.length (.ctrl 0b10011)) u' := by
  induction bs generalizing v u j w with
  | nil => exact ⟨u, leads_nil u, by simpa [delivered_nil] using h⟩
  | cons b bs ih =>
    rw [List.length_cons] at hlen
    have hj : (BitVec.ofNat 8 j).toNat = j := toNat_index (v := v) (by omega)
    obtain ⟨u₁, l₁, h₁⟩ := leads_stored (ack := true) hk (by rw [hj]; simp; omega) b (by omega) h
    rw [hj] at h₁
    have hnext : nextReceive u₁ = beginStep .dataReceive .payload (BitVec.ofNat 8 (j + 1)) u₁ := by
      have hidx : u₁.seq.idx = BitVec.ofNat 8 j := h₁.idx
      have hlt : u₁.seq.idx.toNat + 1 < countOf u₁ := by
        rw [hidx, hj, h₁.frame.count, countOf_delivered]
        omega
      rw [nextReceive_of_lt hlt, hidx, BitVec.ofNat_add]
      rfl
    rw [hnext] at l₁
    obtain ⟨u', l', h'⟩ := ih (by rwa [opc_delivered]) (by rw [countOf_delivered]; omega)
      (h₁.next .dataReceive .payload (BitVec.ofNat 8 (j + 1)))
    refine ⟨u', ?_, ?_⟩
    · rw [receiveLoop_cons]
      exact l₁.trans l'
    · rw [← delivered_cons, Nat.add_assoc, Nat.add_comm 1, List.append_assoc] at h'
      exact h'

theorem delivered_append (j : Nat) (bs cs : List Byte) (v : State) :
    delivered j (bs ++ cs) v = delivered (j + bs.length) cs (delivered j bs v) := by
  induction bs generalizing j v with
  | nil => rw [delivered_nil]; rfl
  | cons b bs ih =>
    rw [List.cons_append, delivered_cons, ih, ← delivered_cons, List.length_cons, Nat.add_assoc, Nat.add_comm 1]

theorem receiveLoop_append (bs cs : List Byte) : receiveLoop (bs ++ cs) = receiveLoop bs ++ receiveLoop cs := by
  induction bs with
  | nil => rfl
  | cons b bs ih => rw [List.cons_append, receiveLoop_cons, ih, ← List.append_assoc, ← receiveLoop_cons]

/-- A read whose every byte comes, from its first receive to its end: all bytes but the last acknowledged (R158,
R161). -/
theorem ends_read {v u : State} {bs : List Byte} {w : List Ev} (hk : isReadKind (kindOf v.opc) = true)
    (hlen : bs.length = countOf v) (h : Stands v (stepPtr .dataReceive .t0 .payload 0) .mr w u) (rest : List Turn) :
    ∃ t, runTurns (receiveLoop bs ++ nominalStop ++ rest) u = .next t ∧
      Ended (delivered 0 bs v) t 0 0b00001 (w ++ receiveWrites bs.length ++ [.ctrl 0b11001]) rest ∧
      t.now = (delivered 0 bs v).now := by
  have hpos := countOf_pos v h.params
  rcases List.eq_nil_or_concat' bs with rfl | ⟨init, b, rfl⟩
  · exact absurd hlen (by simp; omega)
  rw [List.length_append, List.length_singleton] at hlen
  have hj : (BitVec.ofNat 8 (0 + init.length)).toNat = init.length := by
    rw [Nat.zero_add]
    exact toNat_index (v := v) (by omega)
  obtain ⟨u₁, l₁, h₁⟩ := leads_receives (j := 0) (bs := init) hk (by omega) h
  obtain ⟨u₂, l₂, h₂⟩ := leads_stored (ack := false) (by rwa [opc_delivered])
    (by rw [hj, countOf_delivered]; simp [hlen]) b (by rw [hj, countOf_delivered]; omega) h₁
  have hlast : nextReceive u₂ = beginStep .stop .payload u₂.seq.idx u₂ := by
    refine nextReceive_of_last ?_
    rw [h₂.frame.count, countOf_delivered, countOf_delivered, h₂.seq, ← hlen]
    exact congrArg (· + 1) hj
  rw [hlast] at l₂
  have hdel : delivered 0 (init ++ [b]) v = delivered init.length [b] (delivered 0 init v) := by
    rw [delivered_append, Nat.zero_add]
  rw [hj, ← hdel] at h₂
  obtain ⟨t, ht, hended, hnow⟩ := ends_nominalStop (h₂.next .stop .payload u₂.seq.idx).toRuns rest
  have hwrites : receiveWrites (init ++ [b]).length =
      List.replicate init.length (.ctrl 0b10011) ++ [.ctrl (armWord (.recv false))] := by
    rw [List.length_append, receiveWrites]
    rfl
  refine ⟨t, ?_, ?_, hnow⟩
  · rw [receiveLoop_append, List.append_assoc, (l₁.trans l₂), ht]
  · rw [hwrites, ← List.append_assoc]
    exact hended

end Sys2Proof.Machine
end

section
/-! PROOFS. The transactions, fourth part: the way of every transaction to its first address and of every read to its
first receive, and the endings of a transaction that fails (41_transactions R151, R155, R162, R167). -/
namespace Sys2Proof.Machine

/-! ### The beginning of a transaction -/

/-- The counts of the ReceiveBuffer before the first primitive of a read, as one record (R159). -/
theorem clearReceive_eq (s : State) :
    clearReceive s = { s with
      avail := if flagX s.opc then s.avail else 0, cursor := if flagX s.opc then s.cursor else 0,
      total := if flagX s.opc then s.total else 0 } := by
  cases h : flagX s.opc <;> simp [clearReceive, h]

/-- Every transaction latches its address and begins with a start, after which it sends that address (R150). -/
theorem begun_transaction {i : Instr} {sla : SlaveAddr} {d : Bool} (hi : firstAddress i = some (sla, d)) (s : State) :
    usesBus i = true ∧ (begun i s).sla = sla ∧ (begun i s).seq = stepPtr .start .t0 .payload 0 ∧
      ∀ x, x.opc = (begun i s).opc → x.seq.tstep = .start →
        advance x = beginStep (if d then .addressRead else .addressWrite) .payload 0 x := by
  cases i <;> cases hi
  case read | readX =>
    refine ⟨rfl, by simp [begun, clearReceive_eq], rfl, fun x hx ht => advance_read_start ?_ ht⟩
    simp [hx, begun, kindOf, Op.byte]
  all_goals
    refine ⟨rfl, by simp [begun, clearReceive_eq], rfl, fun x hx ht => advance_opening_start ?_ ht⟩
    simp [hx, begun, kindOf, Op.byte]

/-- What a read latches (R87, R157): its kind, the destination and the effective count; a buffer-less read has emptied
the ReceiveBuffer (R159). -/
theorem begun_read {i : Instr} {cnt : Byte} {x : Bool} (hi : readOperands i = some (cnt, x)) (s : State) :
    usesBus i = true ∧ isReadKind (kindOf (begun i s).opc) = true ∧ flagX (begun i s).opc = x ∧
      countOf (begun i s) = effectiveCount cnt x s.cfg.rxcap ∧ PayloadUntouched s (begun i s) ∧
      (begun i s).avail = (if x then s.avail else 0) ∧ (begun i s).cursor = (if x then s.cursor else 0) ∧
      (begun i s).total = (if x then s.total else 0) := by
  cases i <;> cases hi
  all_goals simp [usesBus, begun, clearReceive_eq, kindOf, isReadKind, flagX, Op.byte, countOf, PayloadUntouched]

section
variable {v : State} (hseq : v.seq = stepPtr .start .t0 .payload 0) (hb : v.busy = true) (hc : v.cfg.Ok)
include hseq hb hc

/-- A transaction comes to its first address (R152, R158, R164). -/
theorem leads_firstAddress {k : TStep}
    (hk : ∀ x, x.opc = v.opc → x.seq.tstep = .start → advance x = beginStep k .payload 0 x) :
    ∃ u, Leads nominalStart v u ∧ Stands v (stepPtr k (firstPhase k) .payload 0) .noMode [.ctrl 0b10101] u := by
  obtain ⟨u, l, h⟩ := leads_start (.inl rfl) (hseq ▸ runs_self hb hc)
  rw [hk u h.frame.opc h.tstep] at l
  exact ⟨_, l, h.next k .payload 0⟩

/-- A register read comes to its second address, after a repeated start (R164, R165). -/
theorem leads_secondAddress (hk : kindOf v.opc = .rread) :
    ∃ u, Leads (nominalStart ++ sendLoop (1 + (selectorBytes v).length) ++ nominalStart) v u ∧
      Stands v (stepPtr .addressRead .data .payload 0) .noMode
        ([.ctrl 0b10101] ++ sendWrites (addressByte v.sla false :: selectorBytes v) ++ [.ctrl 0b10101]) u := by
  obtain ⟨u₁, l₁, h₁⟩ := leads_opening (.inr hk) hseq hb hc
  rw [advance_rread_selLo (by rwa [h₁.frame.opc]) h₁.tstep h₁.seg] at l₁
  obtain ⟨u₂, l₂, h₂⟩ := leads_start (.inr rfl) (h₁.next .repeatedStart .payload 0).toRuns
  rw [advance_rread_repeatedStart (by rwa [h₂.frame.opc]) h₂.tstep] at l₂
  exact ⟨_, l₁.trans l₂, h₂.next .addressRead .payload 0⟩

end

/-- A read comes from its address to its first receive (R158, R164). -/
theorem leads_addressRead {v u : State} {w : List Ev} (hk : isReadKind (kindOf v.opc) = true)
    (h : Stands v (stepPtr .addressRead .data .payload 0) .noMode w u) :
    ∃ u', Leads (sendLoop 1) u u' ∧
      Stands v (stepPtr .dataReceive .t0 .payload 0) .mr (w ++ sendWrites [addressByte v.sla true]) u' := by
  obtain ⟨u₁, l₁, h₁⟩ := leads_address (d := true) rfl h
  rw [advance_addressRead (by rwa [h₁.frame.opc]) h₁.tstep] at l₁
  exact ⟨_, l₁, h₁.next .dataReceive .payload 0⟩

/-! ### An address nobody acknowledges (R127, R155, R162, R167) -/

/-- What a refused address has changed when its nested stop begins (R127). -/
theorem Runs.afterRefusal {v u : State} {q : SeqPtr} {w : List Ev} (h : Runs v q w u) (d : Bool) (st b : Byte)
    (r : Bool) :
    Runs v { q with mph := .t0, nstop := true } (w ++ sendWrites [addressByte v.sla d])
      (refused (.addr d) st b r u) := by
  have ha := h.afterAnswer (p := .addr d) (by simp) st b r
  rw [← h.frame.sla]
  exact ha.moved rfl (congrArg (fun q => { q with mph := .t0, nstop := true }) ha.seq) rfl

theorem classify_refusedAddress {cfg : Params} (hc : cfg.Ok) (d : Bool) :
    classify cfg (.addr d) (if d then cfg.stMrSlaNack else cfg.stMtSlaNack) = .nack :=
  (classify_eq_nack_iff hc _ _).mpr (List.mem_singleton_self _)

/-- The transaction ends after the nested stop with the refusal's status. -/
theorem ends_refusedAddress {v u : State} {d : Bool} {k : TStep} {w : List Ev}
    (hk : k = if d then .addressRead else .addressWrite)
    (h : Stands v (stepPtr k (firstPhase k) .payload 0) .noMode w u) (rest : List Turn) :
    ∃ t, runTurns (sendTurns (.nominal false 0) ++ stopTurns .sto ++ engineTurns 2 ++ rest) u = .next t ∧
      Ended v t (if d then v.cfg.stMrSlaNack else v.cfg.stMtSlaNack) 0b00001
        (w ++ sendWrites [addressByte v.sla d] ++ [.ctrl 0b11001]) rest := by
  have hbegins : Begins (.addr d) u := h.begins (by subst hk; cases d <;> rfl)
  have ha := envStep_nominal_address (d := d) h false 0
  have hv := classify_refusedAddress h.params d
  simp only [nominalXfer_address, Bool.false_eq_true, if_false, ← envStep_done_launched (p := .addr d) (by simp)] at ha
  generalize (if d then v.cfg.stMrSlaNack else v.cfg.stMtSlaNack) = st at ha hv ⊢
  have hr := h.toRuns.afterRefusal d st 0 false
  have hstop : Begins .stop (refused (.addr d) st 0 false u) := begins_refused hbegins st 0 false
  have hquiet : Quiet v 0b00001 (w ++ sendWrites [addressByte v.sla d] ++ [.ctrl 0b11001])
      (endNestedStop (stopped (refused (.addr d) st 0 false u))) := by
    obtain ⟨hframe, hctrl, hpend, hheld, hwrites⟩ := hr.quiet_stopped
    exact ⟨hframe.trans rfl, hctrl, hpend, hheld, hwrites⟩
  have hsaved : (refused (.addr d) st 0 false u).saved = st := rfl
  obtain ⟨hb, hkept, hseq⟩ := stopped_frame (refused (.addr d) st 0 false u)
  have hstep : (stopped (refused (.addr d) st 0 false u)).seq.tstep ≠ .noStep := by
    rw [hseq, hr.seq, hk]
    cases d <;> simp [stepPtr]
  refine ⟨_, ?_, hquiet.ended (.inl rfl) st rest⟩
  calc runTurns (sendTurns (.nominal false 0) ++ stopTurns .sto ++ engineTurns 2 ++ rest) u
    _ = runTurns (sendTurns (.done st 0 false) ++ (stopTurns .sto ++ (engineTurns 2 ++ rest))) u := by
      rw [List.append_assoc, List.append_assoc]
      exact runTurns_primTurns_congr hbegins ha _
    _ = runTurns (engineTurns 2 ++ rest) (stopped (refused (.addr d) st 0 false u)) := by
      rw [runTurns_refused hbegins (by rwa [h.frame.cfg]), runTurns_stopTurns hstop]
      rfl
    _ = .next { finish st (endNestedStop (stopped (refused (.addr d) st 0 false u))) with script := rest } := by
      rw [runTurns_nestedStop_ends (hb.trans hstop.busy) rfl (by rw [hseq, hr.seq]) hstep, hkept, hsaved]

/-! ### A receive that fails (R140, R227) -/

/-- After lockup recovery the transaction ends with the return code of the failure (R151, R232). -/
theorem ends_recovered {v x : State} {k : TStep} {m : Mph} {g : Seg} {i : Byte} {w : List Ev}
    {p : Prim} {o : PrimResult} (h : Runs v (stepPtr k m g i) w x) (hp : currentPrim x = some p) (ho : o ≠ .ok)
    (rest : List Turn) :
    ∃ t, runTurns (engineTurns 1 ++ rest) (recovered o x) = .next t ∧
      Ended v t (rcOf o (stepCode k)) 0b00011 (w ++ [.ctrl 0b00000, .ctrl 0b00011]) rest := by
  have hquiet : Quiet v 0b00011 (w ++ [.ctrl 0b00000, .ctrl 0b00011]) (recovered o x) := by
    rw [recovered_eq]
    refine ⟨h.frame.trans rfl, rfl, rfl, rfl, ?_⟩
    rw [engineWrites_append, h.writes, List.append_assoc]
    rfl
  have hx : (recovered o x).seq = stepPtr k .done g i ∧ (recovered o x).outc = o := by
    rw [recovered_eq]
    exact ⟨by simp [h.seq, stepPtr], rfl⟩
  obtain ⟨hseq, hout⟩ := hx
  have hprim : currentPrim (recovered o x) = some p := by
    rw [recovered_eq]
    exact hp
  have hdone : phaseDone (recovered o x) = finish (rcOf o (stepCode k)) (recovered o x) := by
    have hn : (recovered o x).seq.nstop = false := by rw [hseq]; rfl
    rw [phaseDone, hn, checkOutcome, hout, hseq]
    cases o
    case ok => exact absurd rfl ho
    all_goals rfl
  exact ⟨_, runTurns_finishes (hquiet.frame.busy.trans h.busy) hprim (by rw [hseq]; rfl) hdone rest,
    hquiet.ended (.inr rfl) _ rest⟩

theorem Runs.afterArm {v u : State} {q : SeqPtr} {w : List Ev} (h : Runs v q w u) (p : Prim) :
    Runs v { q with mph := .poll } (w ++ (dataWrites p u ++ [.ctrl (armWord p)])) (launched p u) := by
  rw [launched_eq]
  refine ⟨h.busy, h.params, h.frame.trans rfl, by rw [h.seq], ?_⟩
  rw [engineWrites_append, engineWrites_append, h.writes, List.append_assoc, List.append_assoc, dataWrites]
  cases dataOperand p u <;> rfl

theorem Runs.ticked {v u : State} {q : SeqPtr} {w : List Ev} (h : Runs v q w u) (n : Nat) :
    Runs (afterTicks n v) q w (afterTicks n u) :=
  ⟨h.busy, h.params, congrArg (afterTicks n) h.frame, h.seq, h.writes⟩

/-- The state in which `M_STATUS` has saved the status of the answer (R126). -/
def statusSaved (p : Prim) (st b : Byte) (r : Bool) (u : State) : State :=
  { gotoPhase .status (answered p st b r u) with saved := st }

section
variable {v u : State} {i : Byte} {w : List Ev} (hk : isReadKind (kindOf v.opc) = true)
  (h : Runs v (stepPtr .dataReceive .t0 .payload i) w u) (rest : List Turn)
include hk h

/-- A receive answered with any status but the one of the acknowledge mode asked for: the status is returned
unchanged. -/
theorem ends_receive_busFault {st : Byte}
    (hst : st ≠ if i.toNat + 1 = countOf v then v.cfg.stMrDataNack else v.cfg.stMrDataAck) (b : Byte) (r : Bool) :
    ∃ t w', runTurns (shortTurns (.done st b r) ++ engineTurns 3 ++ rest) u = .next t ∧
      Ended v t st 0b00011 w' rest := by
  have hprim := h.receives hk
  generalize hack : decide (i.toNat + 1 ≠ countOf v) = ack at hprim
  have hbegins : Begins (.recv ack) u := h.begins hprim
  have hne : st ≠ if ack then v.cfg.stMrDataAck else v.cfg.stMrDataNack := by
    rw [← hack]
    by_cases hlast : i.toNat + 1 = countOf v
    all_goals simpa [hlast] using hst
  have hv : classify v.cfg (.recv ack) st = .busFault :=
    classify_eq_busFault h.params (by simp) (by simpa [successStatuses] using hne) (by simp [refusalStatuses])
  have ha := h.afterAnswer (p := .recv ack) (by simp) st b r
  have hx : Runs v (stepPtr .dataReceive .status .payload i) (w ++ [.ctrl (armWord (.recv ack))])
      (statusSaved (.recv ack) st b r u) :=
    ha.moved rfl (congrArg (fun q => { q with mph := .status }) ha.seq) rfl
  have hs : phaseStatus (.recv ack) (gotoPhase .status (answered (.recv ack) st b r u)) =
      takeFailure (.status st) (statusSaved (.recv ack) st b r u) :=
    phaseStatus_of_busFault (s := gotoPhase .status (answered (.recv ack) st b r u))
      ((h.classify_answered (by simp) st b r).trans hv)
  have hsaved : currentPrim (statusSaved (.recv ack) st b r u) = some (.recv ack) :=
    hx.prim.trans (h.prim.symm.trans hbegins.prim)
  obtain ⟨t, ht, hended⟩ := ends_recovered (o := .status st) hx hsaved (by simp) rest
  refine ⟨t, _, ?_, hended⟩
  calc runTurns (shortTurns (.done st b r) ++ engineTurns 3 ++ rest) u
    _ = runTurns (primTurns (.recv ack) (.done st b r) ++ (engineTurns 2 ++ (engineTurns 1 ++ rest))) u := by
      rw [List.append_assoc]
      rfl
    _ = .next t := by
      rw [runTurns_primTurns hbegins (by simp), hs, runTurns_recovery _ (hx.frame.busy.trans h.busy) hsaved, ht]

/-- A receive whose action never completes: the return code is the step's number (R232). -/
theorem ends_receive_timeout {n : Nat} (h0 : v.timeout ≠ 0) (hle : v.timeout.toNat ≤ n) (hn : n < 2 ^ 32) :
    ∃ t w', runTurns (engineTurns 2 ++ ticks n ++ engineTurns 4 ++ rest) u = .next t ∧ Ended v t 6 0b00011 w' rest := by
  have hbegins := h.begins (h.receives hk)
  generalize decide (i.toNat + 1 ≠ countOf v) = ack at hbegins
  have hto : u.timeout = v.timeout := h.frame.timeout
  have hx : Runs (afterTicks n v) (stepPtr .dataReceive .poll .payload i) (w ++ [.ctrl (armWord (.recv ack))])
      (afterTicks n (launched (.recv ack) u)) := (h.afterArm (.recv ack)).ticked n
  obtain ⟨t, ht, hended⟩ := ends_recovered (o := .timeout) hx
    ((currentPrim_launched (.recv ack) u).trans hbegins.prim) (by simp) rest
  refine ⟨t, _, ?_, hended.idle, hended.receive, hended.rxout, hended.payload, hended.cnt, hended.writes⟩
  calc runTurns (engineTurns 2 ++ ticks n ++ engineTurns 4 ++ rest) u
    _ = runTurns (armTurns (.recv ack) ++ (ticks n ++ (engineTurns 3 ++ (engineTurns 1 ++ rest)))) u := by
      rw [List.append_assoc, List.append_assoc]
      rfl
    _ = .next t := by rw [runTurns_timesOut hbegins (hto ▸ h0) (hto ▸ hle) hn, ht]

end

end Sys2Proof.Machine
end

section
/-! PROOFS. The transactions, last part: the statements about `WRITE`, `READ` and `RREAD` in all their forms
(41_transactions R150 to R168). -/
namespace Sys2Proof.Machine

theorem exec_leads {i : Instr} {s u : State} {ts l : List Turn} (hr : Ready s) (hu : usesBus i = true)
    (hl : Leads ts (begun i s) u) (hs : s.script = ts ++ l) : exec i s = runTurns l u := by
  rw [exec_ready i s hu hr, hs, hl]

/-! ### `WRITE` (R152) -/

/-- A `WRITE` from its beginning to its end. -/
theorem ends_write {v : State} {d : List Byte} (hk : kindOf v.opc = .write)
    (hseq : v.seq = stepPtr .start .t0 .payload 0) (hb : v.busy = true) (hc : v.cfg.Ok)
    (hlen : v.txlen.toNat = d.length) (hd : ∀ n < d.length, v.txbuf.read n = d.getD n 0) (rest : List Turn) :
    ∃ t, runTurns (nominalStart ++ sendLoop (1 + (selectorBytes v).length + d.length) ++ nominalStop ++ rest) v =
        .next t ∧
      Ended v t 0 0b00001
        ([.ctrl 0b10101] ++ sendWrites (addressByte v.sla false :: selectorBytes v ++ d) ++ [.ctrl 0b11001]) rest ∧
      t.now = v.now := by
  obtain ⟨u₁, l₁, h₁⟩ := leads_opening (.inl hk) hseq hb hc
  rw [advance_write_selLo (by rwa [h₁.frame.opc]) h₁.tstep h₁.seg] at l₁
  obtain ⟨u₂, i, l₂, h₂⟩ := leads_payload (j := 0) hk (by rw [hlen, Nat.zero_add]) (by simpa using hd) h₁
  obtain ⟨t, ht, hended, hnow⟩ := ends_nominalStop h₂.toRuns rest
  refine ⟨t, ?_, ?_, hnow⟩
  · rw [sendLoop_add, ← List.append_assoc, List.append_assoc, l₁.trans l₂, ht]
  · rw [sendWrites, List.flatMap_append]
    rw [List.append_assoc [_]] at hended
    exact hended

/-- The payload latch holds the payload (R65). -/
theorem latchPayload_read {d : List Byte} (hd : d.length ≤ 255) {m : Memory} (hm : m.wf = true) :
    ∀ n < d.length, (m.writeList 0 (d.take 255)).read n = d.getD n 0 := by
  intro n hn
  rw [List.take_of_length_le hd, Memory.read_writeList d m 0 n hm, if_pos (by omega), Nat.sub_zero]

/-- A `WRITE` on the nominal bus, whatever its selector's width. -/
theorem exec_write {i : Instr} {s : State} {sla : SlaveAddr} {d bs : List Byte} {o : Byte} {e : Half} {f : Nat}
    {rest : List Turn} (hr : Ready s) (hm : MemoryOk s) (hc : s.cfg.Ok) (hlen : d.length ≤ 255) (hu : usesBus i = true)
    (hbegun : begun i s = beginStep .start .payload 0
      (latchPayload d { s with opc := o, busy := true, sla := sla, sel := e, free := f }))
    (hk : kindOf o = .write) (hsel : (if flag0 o then [hiByte e, loByte e] else [loByte e]) = bs)
    (hs : s.script = nominalStart ++ sendLoop (1 + bs.length + d.length) ++ nominalStop ++ rest) :
    ∃ t, exec i s = .next t ∧ t.busy = false ∧ t.rc = 0 ∧ t.rspq = s.rspq ++ [0] ∧ Idle t ∧ t.ctrl = 0b00001 ∧
      t.script = rest ∧ ReceiveUntouched s t ∧ t.rxout = s.rxout ∧ ConfigUntouched s t ∧ t.now = s.now ∧ t.cnt = s.cnt ∧
      engineWrites t.ev = engineWrites s.ev ++ [.ctrl 0b10101] ++ sendWrites (addressByte sla false :: bs ++ d) ++
        [.ctrl 0b11001] := by
  obtain ⟨-, -, htx, -⟩ := hm
  rw [exec_ready i s hu hr, hs, hbegun]
  obtain ⟨t, ht, hended, hnow⟩ := ends_write (d := d) (rest := rest)
    (v := beginStep .start .payload 0
      (latchPayload d { s with opc := o, busy := true, sla := sla, sel := e, free := f }))
    hk rfl rfl hc (toNat_ofNat_length hlen) (latchPayload_read hlen htx)
  obtain ⟨⟨hbusy, hrc, hrspq, hidle, hctrl, hscript, hconfig⟩, hreceive, hrxout, -, hcnt, hwrites⟩ := hended
  subst hsel
  refine ⟨t, ht, hbusy, hrc, hrspq, hidle, hctrl, hscript, hreceive, hrxout, hconfig, hnow, hcnt, ?_⟩
  rw [List.append_assoc, List.append_assoc, ← List.append_assoc [_]]
  exact hwrites

/-- Settles O49: the two widths of the selector. -/
theorem writeTransactionsCompleteInOrder : Obligations.WriteTransactionsCompleteInOrder := by
  intro s sla d rest hr hm hc hlen
  refine ⟨fun sel hs => ?_, fun sel hs => ?_⟩
  · exact exec_write (i := .write8 sla sel d) (bs := [sel]) hr hm hc hlen rfl rfl (by simp [kindOf, Op.byte])
      (by simp [flag0, Op.byte, loByte_append]) hs
  · exact exec_write (i := .write16 sla sel d) (bs := [hiByte sel, loByte sel]) hr hm hc hlen rfl rfl
      (by simp [kindOf, Op.byte]) (by simp [flag0, Op.byte]) hs

/-! ### The destination of a read (R159, R160) -/

/-- The bytes `bs`, and no other, have been delivered: appended to the caller's buffer, the ReceiveBuffer untouched, or
stored in the ReceiveBuffer, emptied first. -/
abbrev Delivered (s t : State) (x : Bool) (bs : List Byte) : Prop :=
  if x then t.rxout = s.rxout ++ bs ∧ ReceiveUntouched s t else t.rxout = s.rxout ∧ Stored s t bs

theorem endedIdle_of_begun {i : Instr} {s t : State} {c : Byte} {ct : Ctrl} {rest : List Turn} (hu : usesBus i = true)
    (h : EndedIdle (begun i s) t c ct rest) : EndedIdle s t c ct rest := by
  obtain ⟨hto, -, herr, hcmdq, -, hcfg, -, -, -, -, -, -, -, -, -, hrspq, -⟩ := begun_keeps i s hu
  rw [EndedIdle, ConfigUntouched, hto, herr, hcmdq, hcfg, hrspq] at h
  exact h

section
variable {i : Instr} {cnt : Byte} {x : Bool} {s t : State} {bs : List Byte} {c : Byte} {ct : Ctrl} {w : List Ev}
  {rest : List Turn} (hi : readOperands i = some (cnt, x))
include hi

/-- A read that has ended with the bytes `bs` delivered, successfully or not. -/
theorem Ended.of_read (hm : MemoryOk s) (hlen : bs.length ≤ 255)
    (h : Ended (delivered 0 bs (begun i s)) t c ct w rest) :
    EndedIdle s t c ct rest ∧ Delivered s t x bs ∧ PayloadUntouched s t ∧
      engineWrites t.ev = engineWrites s.ev ++ w := by
  obtain ⟨hwf, -⟩ := hm
  obtain ⟨hu, -, hx, -, ⟨hbuf, htxlen⟩, havail, hcursor, htotal⟩ := begun_read hi s
  obtain ⟨-, -, -, -, -, -, -, -, -, -, -, -, -, hrxbuf, hrxout, -, hev, -⟩ := begun_keeps i s hu
  obtain ⟨hidle, hreceive, hout, hpayload, -, hwrites⟩ := h
  have hkept : EndedIdle (begun i s) t c ct rest ∧ PayloadUntouched (begun i s) t ∧
      engineWrites t.ev = engineWrites (begun i s).ev ++ w := by
    obtain ⟨m, a, n, l, hd⟩ := delivered_keeps 0 bs (begun i s)
    rw [hd] at hidle hpayload hwrites
    exact ⟨hidle, hpayload, hwrites⟩
  obtain ⟨hidle, hpayload, hwrites⟩ := hkept
  rw [PayloadUntouched, hbuf, htxlen] at hpayload
  rw [hev] at hwrites
  refine ⟨endedIdle_of_begun hu hidle, ?_, hpayload, hwrites⟩
  cases x
  · rw [delivered_buffer hx] at hreceive hout
    obtain ⟨hb, ha, hcur, htot⟩ := hreceive
    have hcount : (0 + BitVec.ofNat 8 bs.length).toNat = bs.length := by
      rw [zero_add, toNat_ofNat_length hlen]
    rw [havail] at ha
    rw [htotal] at htot
    rw [hrxbuf] at hb
    refine ⟨hout.trans hrxout, ha ▸ hcount, htot ▸ hcount, hcur.trans hcursor, fun k => ?_⟩
    rw [hb]
    simpa using Memory.read_writeList bs s.rxbuf 0 k hwf
  · rw [delivered_caller hx] at hreceive hout
    rw [hrxout] at hout
    obtain ⟨hb, ha, hcur, htot⟩ := hreceive
    exact ⟨hout, hb.trans hrxbuf, ha.trans havail, hcur.trans hcursor, htot.trans htotal⟩

/-- A read on the nominal bus, from its first receive on. -/
theorem exec_read {u : State} {ts : List Turn} (hr : Ready s) (hm : MemoryOk s)
    (hlen : bs.length = effectiveCount cnt x s.cfg.rxcap) (hl : Leads ts (begun i s) u)
    (h : Stands (begun i s) (stepPtr .dataReceive .t0 .payload 0) .mr w u)
    (hs : s.script = ts ++ receiveLoop bs ++ nominalStop ++ rest) :
    ∃ t, exec i s = .next t ∧ EndedIdle s t 0 0b00001 rest ∧ Delivered s t x bs ∧ PayloadUntouched s t ∧ t.now = s.now ∧
      engineWrites t.ev = engineWrites s.ev ++ (w ++ receiveWrites bs.length ++ [.ctrl 0b11001]) := by
  obtain ⟨hu, hk, -, hcount, -⟩ := begun_read hi s
  rw [← hcount] at hlen
  obtain ⟨t, ht, hended, hnow⟩ := ends_read hk hlen h rest
  obtain ⟨hidle, hdelivered, hpayload, hwrites⟩ := hended.of_read hi hm (hlen ▸ countOf_le _)
  refine ⟨t, ?_, hidle, hdelivered, hpayload, ?_, hwrites⟩
  · rw [exec_leads hr hu hl (by simpa only [List.append_assoc] using hs), ← List.append_assoc, ht]
  · obtain ⟨m, a, n, l, hd⟩ := delivered_keeps 0 bs (begun i s)
    obtain ⟨-, hsame, -⟩ := begun_keeps i s hu
    rw [hnow, hd, ← hsame]

end

/-! ### The way of a read to its first receive (R158, R164) -/

theorem begun_runs {i : Instr} {s : State} (hu : usesBus i = true) (hc : s.cfg.Ok) :
    (begun i s).busy = true ∧ (begun i s).cfg.Ok := by
  obtain ⟨-, -, -, -, -, hcfg, -, -, -, -, -, -, -, -, -, -, -, hb, -⟩ := begun_keeps i s hu
  exact ⟨hb, hcfg ▸ hc⟩

/-- The register reads with their selector bytes, high byte first (R164). -/
abbrev registerReads (sla : SlaveAddr) (e : Byte) (e16 : Half) (cnt : Byte) : List (Instr × List Byte) :=
  [(Instr.rread8 sla e cnt, [e]), (.rread8X sla e cnt, [e]), (.rread16 sla e16 cnt, [hiByte e16, loByte e16]),
    (.rread16X sla e16 cnt, [hiByte e16, loByte e16])]

theorem begun_rread (sla : SlaveAddr) (e : Byte) (e16 : Half) (cnt : Byte) (s : State) :
    ∀ row ∈ registerReads sla e e16 cnt, firstAddress row.1 = some (sla, false) ∧
      kindOf (begun row.1 s).opc = .rread ∧ selectorBytes (begun row.1 s) = row.2 := by
  simp [firstAddress, selectorBytes, begun, clearReceive_eq, kindOf, flag0, Op.byte, loByte_append]

theorem leads_read {i : Instr} {sla : SlaveAddr} {o : Byte × Bool} (hi : firstAddress i = some (sla, true))
    (ho : readOperands i = some o) {s : State} (hc : s.cfg.Ok) :
    ∃ u, Leads (nominalStart ++ sendLoop 1) (begun i s) u ∧
      Stands (begun i s) (stepPtr .dataReceive .t0 .payload 0) .mr
        ([.ctrl 0b10101] ++ sendWrites [addressByte sla true]) u := by
  obtain ⟨hu, hsla, hseq, hfirst⟩ := begun_transaction hi s
  obtain ⟨-, hk, -⟩ := begun_read ho s
  obtain ⟨hb, hok⟩ := begun_runs hu hc
  obtain ⟨u₁, l₁, h₁⟩ := leads_firstAddress hseq hb hok hfirst
  obtain ⟨u₂, l₂, h₂⟩ := leads_addressRead hk h₁
  exact ⟨u₂, l₁.trans l₂, hsla ▸ h₂⟩

section
variable {s : State} {sla : SlaveAddr} {e : Byte} {e16 : Half} {cnt : Byte} {row : Instr × List Byte}
  (hrow : row ∈ registerReads sla e e16 cnt) (hc : s.cfg.Ok)
include hrow hc

/-- A register read comes to its second address. -/
theorem leads_rread_secondAddress :
    ∃ u, Leads (nominalStart ++ sendLoop (1 + row.2.length) ++ nominalStart) (begun row.1 s) u ∧
      Stands (begun row.1 s) (stepPtr .addressRead .data .payload 0) .noMode
        ([.ctrl 0b10101] ++ sendWrites (addressByte sla false :: row.2) ++ [.ctrl 0b10101]) u := by
  obtain ⟨hi, hk, hsel⟩ := begun_rread sla e e16 cnt s row hrow
  obtain ⟨hu, hsla, hseq, -⟩ := begun_transaction hi s
  obtain ⟨hb, hok⟩ := begun_runs hu hc
  rw [← hsla, ← hsel]
  exact leads_secondAddress hseq hb hok hk

theorem leads_rread :
    ∃ u, Leads (nominalStart ++ sendLoop (1 + row.2.length) ++ nominalStart ++ sendLoop 1) (begun row.1 s) u ∧
      Stands (begun row.1 s) (stepPtr .dataReceive .t0 .payload 0) .mr
        ([.ctrl 0b10101] ++ sendWrites (addressByte sla false :: row.2) ++ [.ctrl 0b10101] ++
          sendWrites [addressByte sla true]) u := by
  obtain ⟨hi, hk, -⟩ := begun_rread sla e e16 cnt s row hrow
  obtain ⟨-, hsla, -⟩ := begun_transaction hi s
  obtain ⟨u₁, l₁, h₁⟩ := leads_rread_secondAddress hrow hc
  obtain ⟨u₂, l₂, h₂⟩ := leads_addressRead (by rw [hk]; rfl) h₁
  exact ⟨u₂, l₁.trans l₂, hsla ▸ h₂⟩

end

/-- A read is a `READ` or one of the register reads. -/
theorem read_forms {i : Instr} {o : Byte × Bool} (ho : readOperands i = some o) :
    ((∃ sla, firstAddress i = some (sla, true)) ∧ readTurns i = nominalStart ++ sendLoop 1) ∨
      ∃ sla e e16 cnt, ∃ row ∈ registerReads sla e e16 cnt, row.1 = i ∧
        readTurns i = nominalStart ++ sendLoop (1 + row.2.length) ++ nominalStart ++ sendLoop 1 := by
  cases i <;> cases ho
  case read sla cnt | readX sla cnt => exact .inl ⟨⟨sla, rfl⟩, rfl⟩
  case rread8 sla e cnt | rread8X sla e cnt => exact .inr ⟨sla, e, 0, cnt, (_, [e]), by simp, rfl, rfl⟩
  case rread16 sla e cnt | rread16X sla e cnt =>
    exact .inr ⟨sla, 0, e, cnt, (_, [hiByte e, loByte e]), by simp, rfl, rfl⟩

/-- Every read comes to its first receive. -/
theorem leads_readTurns {i : Instr} {o : Byte × Bool} (ho : readOperands i = some o) {s : State} (hc : s.cfg.Ok) :
    ∃ u w, Leads (readTurns i) (begun i s) u ∧ Stands (begun i s) (stepPtr .dataReceive .t0 .payload 0) .mr w u := by
  rcases read_forms ho with ⟨⟨sla, hi⟩, hturns⟩ | ⟨sla, e, e16, cnt, row, hrow, rfl, hturns⟩
  all_goals rw [hturns]
  · obtain ⟨u, l, h⟩ := leads_read hi ho hc
    exact ⟨u, _, l, h⟩
  · obtain ⟨u, l, h⟩ := leads_rread hrow hc
    exact ⟨u, _, l, h⟩

/-! ### The reads on the nominal bus -/

section
variable {i : Instr} {cnt : Byte} {s : State} {bs : List Byte} {w : List Ev} {ts rest : List Turn} (hr : Ready s)
  (hm : MemoryOk s) (hreach : ∃ u, Leads ts (begun i s) u ∧
    Stands (begun i s) (stepPtr .dataReceive .t0 .payload 0) .mr w u)
  (hs : s.script = ts ++ receiveLoop bs ++ nominalStop ++ rest)
include hr hm hreach hs

/-- A read into the ReceiveBuffer. -/
theorem exec_readBuffer (hi : readOperands i = some (cnt, false))
    (hlen : bs.length = effectiveCount cnt false s.cfg.rxcap) :
    ∃ t, exec i s = .next t ∧ t.busy = false ∧ t.rc = 0 ∧ t.rspq = s.rspq ++ [0] ∧ Idle t ∧ t.ctrl = 0b00001 ∧
      t.script = rest ∧ t.avail.toNat = bs.length ∧ t.total.toNat = bs.length ∧ t.cursor = 0 ∧
      (∀ k, t.rxbuf.read k = if k < bs.length then bs.getD k 0 else s.rxbuf.read k) ∧ t.rxout = s.rxout ∧
      ConfigUntouched s t ∧ PayloadUntouched s t ∧ t.now = s.now ∧
      engineWrites t.ev = engineWrites s.ev ++ (w ++ receiveWrites bs.length ++ [.ctrl 0b11001]) := by
  obtain ⟨u, l, h⟩ := hreach
  obtain ⟨t, ht, hended, ⟨hout, havail, htotal, hcursor, hbuf⟩, hpayload, hnow, hw⟩ := exec_read hi hr hm hlen l h hs
  obtain ⟨hbusy, hrc, hrspq, hidle, hctrl, hscript, hconfig⟩ := hended
  exact ⟨t, ht, hbusy, hrc, hrspq, hidle, hctrl, hscript, havail, htotal, hcursor, hbuf, hout, hconfig, hpayload, hnow,
    hw⟩

/-- A read into the caller's buffer. -/
theorem exec_readCaller (hi : readOperands i = some (cnt, true))
    (hlen : bs.length = effectiveCount cnt true s.cfg.rxcap) :
    ∃ t, exec i s = .next t ∧ t.busy = false ∧ t.rc = 0 ∧ t.rspq = s.rspq ++ [0] ∧ Idle t ∧ t.ctrl = 0b00001 ∧
      t.script = rest ∧ t.rxout = s.rxout ++ bs ∧ ReceiveUntouched s t ∧ ConfigUntouched s t ∧ PayloadUntouched s t ∧
      t.now = s.now ∧
      engineWrites t.ev = engineWrites s.ev ++ (w ++ receiveWrites bs.length ++ [.ctrl 0b11001]) := by
  obtain ⟨u, l, h⟩ := hreach
  obtain ⟨t, ht, hended, ⟨hout, hreceive⟩, hpayload, hnow, hw⟩ := exec_read hi hr hm hlen l h hs
  obtain ⟨hbusy, hrc, hrspq, hidle, hctrl, hscript, hconfig⟩ := hended
  exact ⟨t, ht, hbusy, hrc, hrspq, hidle, hctrl, hscript, hout, hreceive, hconfig, hpayload, hnow, hw⟩

end

/-- Settles O50: the two destinations of `READ`. -/
theorem readTransactionsDeliverTheBytes : Obligations.ReadTransactionsDeliverTheBytes := by
  intro s sla cnt bs rest hr hm hc hs
  refine ⟨fun hlen => ?_, fun hlen => ?_⟩
  · simpa only [List.append_assoc] using
      exec_readBuffer (i := .read sla cnt) hr hm (leads_read rfl rfl hc) hs rfl hlen
  · simpa only [List.append_assoc] using
      exec_readCaller (i := .readX sla cnt) hr hm (leads_read rfl rfl hc) hs rfl hlen

/-- Settles O51: the two widths of the selector. -/
theorem registerReadsCompleteInOrder : Obligations.RegisterReadsCompleteInOrder := by
  intro s sla cnt bs rest hr hm hc hlen
  refine ⟨fun sel hs => ?_, fun sel hs => ?_⟩
  · have hrow : (Instr.rread8 sla sel cnt, [sel]) ∈ registerReads sla sel 0 cnt := by simp
    simpa only [List.append_assoc] using exec_readBuffer hr hm (leads_rread hrow hc) hs rfl hlen
  · have hrow : (Instr.rread16 sla sel cnt, [hiByte sel, loByte sel]) ∈ registerReads sla 0 sel cnt := by simp
    simpa only [List.append_assoc] using exec_readBuffer hr hm (leads_rread hrow hc) hs rfl hlen

/-- Settles O52: the two widths of the selector. -/
theorem registerReadsIntoTheCallersBufferComplete : Obligations.RegisterReadsIntoTheCallersBufferComplete := by
  intro s sla cnt bs rest hr hm hc hlen
  refine ⟨fun sel hs => ?_, fun sel hs => ?_⟩
  · have hrow : (Instr.rread8X sla sel cnt, [sel]) ∈ registerReads sla sel 0 cnt := by simp
    simpa only [List.append_assoc] using exec_readCaller hr hm (leads_rread hrow hc) hs rfl hlen
  · have hrow : (Instr.rread16X sla sel cnt, [hiByte sel, loByte sel]) ∈ registerReads sla 0 sel cnt := by simp
    simpa only [List.append_assoc] using exec_readCaller hr hm (leads_rread hrow hc) hs rfl hlen

/-! ### The transactions that fail -/

/-- The ReceiveBuffer and the streams after a refused address are as the beginning of the transaction left them
(R159). -/
theorem Ended.addressRefused {i : Instr} {s t : State} {d : Bool} {w : List Ev} {rest : List Turn}
    (hu : usesBus i = true)
    (h : Ended (begun i s) t (if d then (begun i s).cfg.stMrSlaNack else (begun i s).cfg.stMtSlaNack) 0b00001 w rest) :
    AddressRefused i s t d rest ∧ engineWrites t.ev = engineWrites s.ev ++ w := by
  obtain ⟨-, -, -, -, -, hcfg, -, -, -, -, -, -, -, hrxbuf, hrxout, -, hev, -⟩ := begun_keeps i s hu
  obtain ⟨hidle, ⟨hbuf, havail, hcursor, htotal⟩, hout, -, -, hwrites⟩ := h
  rw [hcfg] at hidle
  rw [hev] at hwrites
  refine ⟨⟨endedIdle_of_begun hu hidle, hout.trans hrxout, ?_⟩, hwrites⟩
  have untouched (hx : ∀ o ∈ readOperands i, o.2 = true) : ReceiveUntouched s t := by
    obtain ⟨-, hbegunAvail, hbegunCursor, hbegunTotal⟩ := receiveUntouched_begun i s hx
    exact ⟨hbuf.trans hrxbuf, havail.trans hbegunAvail, hcursor.trans hbegunCursor, htotal.trans hbegunTotal⟩
  rcases ho : readOperands i with _ | ⟨cnt, _ | _⟩
  · exact untouched (by simp [ho])
  · obtain ⟨-, -, -, -, -, hbegunAvail, hbegunCursor, hbegunTotal⟩ := begun_read ho s
    exact ⟨congrArg BitVec.toNat (havail.trans hbegunAvail), congrArg BitVec.toNat (htotal.trans hbegunTotal),
      hcursor.trans hbegunCursor, fun k => congrArg (Memory.read · k) (hbuf.trans hrxbuf)⟩
  · exact untouched (by simp [ho])

/-- A transaction that comes to an address nobody acknowledges. -/
theorem exec_refusedAddress {i : Instr} {s u : State} {d : Bool} {k : TStep} {w : List Ev} {ts rest : List Turn}
    (hr : Ready s) (hu : usesBus i = true) (hk : k = if d then .addressRead else .addressWrite)
    (hl : Leads ts (begun i s) u) (h : Stands (begun i s) (stepPtr k (firstPhase k) .payload 0) .noMode w u)
    (hs : s.script = ts ++ sendTurns (.nominal false 0) ++ stopTurns .sto ++ engineTurns 2 ++ rest) :
    ∃ t, exec i s = .next t ∧ AddressRefused i s t d rest ∧ engineWrites t.ev = engineWrites s.ev ++
      (w ++ sendWrites [addressByte (begun i s).sla d] ++ [.ctrl 0b11001]) := by
  obtain ⟨t, ht, hended⟩ := ends_refusedAddress hk h rest
  refine ⟨t, ?_, hended.addressRefused hu⟩
  simp only [List.append_assoc] at hs ht
  rw [exec_leads hr hu hl hs, ht]

/-- Settles O53: the first address of every transaction and the second of a register read. -/
theorem transactionStopsAtARefusedAddress : Obligations.TransactionStopsAtARefusedAddress := by
  refine ⟨?_, ?_⟩
  · intro i s sla d rest hr hc hi hs
    obtain ⟨hu, hsla, hseq, hfirst⟩ := begun_transaction hi s
    obtain ⟨hb, hok⟩ := begun_runs hu hc
    obtain ⟨u, l, h⟩ := leads_firstAddress hseq hb hok hfirst
    simpa only [hsla, List.append_assoc] using exec_refusedAddress hr hu rfl l h hs
  · intro s sla e e16 cnt rest hr hc row hrow hs
    obtain ⟨hi, -, -⟩ := begun_rread sla e e16 cnt s row hrow
    obtain ⟨hu, hsla, -⟩ := begun_transaction hi s
    obtain ⟨u, l, h⟩ := leads_rread_secondAddress hrow hc
    simpa only [hsla, List.append_assoc] using exec_refusedAddress (d := true) hr hu rfl l h hs

/-- What the delivered bytes of a read leave as it was. -/
theorem delivered_begun {i : Instr} {cnt : Byte} {x : Bool} (hi : readOperands i = some (cnt, x)) (s : State)
    (bs : List Byte) :
    (delivered 0 bs (begun i s)).cfg = s.cfg ∧ (delivered 0 bs (begun i s)).timeout = s.timeout ∧
      countOf (delivered 0 bs (begun i s)) = effectiveCount cnt x s.cfg.rxcap ∧
      isReadKind (kindOf (delivered 0 bs (begun i s)).opc) = true := by
  obtain ⟨hu, hk, -, hcount, -⟩ := begun_read hi s
  obtain ⟨hto, -, -, -, -, hcfg, -⟩ := begun_keeps i s hu
  rw [countOf_delivered, opc_delivered]
  obtain ⟨m, a, n, l, hd⟩ := delivered_keeps 0 bs (begun i s)
  rw [hd]
  exact ⟨hcfg, hto, hcount, hk⟩

/-- A read on the nominal bus comes to any of its receives, the bytes before it delivered. -/
theorem leads_receiveNumber {i : Instr} {cnt : Byte} {x : Bool} {s : State} {bs : List Byte} (hc : s.cfg.Ok)
    (hi : readOperands i = some (cnt, x)) (hlen : bs.length < effectiveCount cnt x s.cfg.rxcap) :
    ∃ u w j, Leads (readTurns i ++ receiveLoop bs) (begun i s) u ∧ j.toNat = bs.length ∧
      Runs (delivered 0 bs (begun i s)) (stepPtr .dataReceive .t0 .payload j) w u := by
  obtain ⟨-, hk, -, hcount, -⟩ := begun_read hi s
  rw [← hcount] at hlen
  obtain ⟨u₁, w, l₁, h₁⟩ := leads_readTurns hi hc
  obtain ⟨u₂, l₂, h₂⟩ := leads_receives (j := 0) (bs := bs) hk (by omega) h₁
  exact ⟨u₂, _, _, l₁.trans l₂, by rw [Nat.zero_add, toNat_index hlen], h₂.toRuns⟩

/-- Settles O54: the two ways a receive fails. -/
theorem failedReadKeepsTheBytesBeforeIt : Obligations.FailedReadKeepsTheBytesBeforeIt := by
  intro i cnt x s bs rest hr hm hc hi hlen
  obtain ⟨hu, -, -, hcount, -⟩ := begun_read hi s
  have hbs : bs.length ≤ 255 := (hlen.le.trans hcount.ge).trans (countOf_le _)
  obtain ⟨hcfg, hto, hcount, hk⟩ := delivered_begun hi s bs
  obtain ⟨u, w, j, l, hj, h⟩ := leads_receiveNumber hc hi hlen
  refine ⟨fun st b r hst hs => ?_, fun n h0 hle hn hs => ?_⟩
  · obtain ⟨t, w', ht, hended⟩ := ends_receive_busFault hk h rest (by rwa [hj, hcount, hcfg]) b r
    obtain ⟨hidle, hdelivered, -⟩ := hended.of_read hi hm hbs
    simp only [List.append_assoc] at hs ht
    exact ⟨t, by rw [exec_leads hr hu l (by rw [hs, List.append_assoc]), ht], hidle, hdelivered⟩
  · obtain ⟨t, w', ht, hended⟩ := ends_receive_timeout hk h rest (hto ▸ h0) (hto ▸ hle) hn
    obtain ⟨hidle, hdelivered, -⟩ := hended.of_read hi hm hbs
    simp only [List.append_assoc] at hs ht
    exact ⟨t, by rw [exec_leads hr hu l (by rw [hs, List.append_assoc]), ht], hidle, hdelivered⟩

end Sys2Proof.Machine
end

section
/-! PROOFS. The commands that do not touch the bus: the exact state each answers from a state that can take a command
(42_buffer_config R175 to R183). -/
namespace Sys2Proof.Machine

/-- The latch raises `BUSY` and the response clears it (R115, R175): of a command that answers at once, the opcode byte,
the response and the trace remain. -/
theorem respond_latchOpc (o : Op) (b : Byte) {s : State} (hb : s.busy = false) :
    respond b (latchOpc o s) = { s with opc := o.byte, rspq := s.rspq ++ [b], ev := s.ev ++ [.rsp b] } := by
  simp only [respond, emit, latchOpc, hb]

/-- A command that does not use the bus, by what its body answers once the opcode byte is latched: `s'` is the state
with the command's own effect, apart from the latch and the response. -/
theorem runLocal_responds {o : Op} {k : State → Result} {s s' : State} {b : Byte} (r : Ready s)
    (hb : s'.busy = false) (hk : k (latchOpc o s) = .next (respond b (latchOpc o s'))) :
    runLocal o k s = .next { s' with opc := o.byte, rspq := s'.rspq ++ [b], ev := s'.ev ++ [.rsp b] } := by
  rw [runLocal_ready _ _ r, hk, respond_latchOpc o b hb]

/-- Settles O57: the threshold is written between the latch and the response, and touches neither. -/
theorem settoWritesTheThreshold : Obligations.SettoWritesTheThreshold := by
  refine fun s ms r => ⟨?_, rfl⟩
  rw [exec, execSetto]
  exact runLocal_responds (s' := { s with timeout := ms }) r r.1 rfl

/-- Settles O58: the response is the count, which the latch leaves alone. -/
theorem availRespondsTheCount : Obligations.AvailRespondsTheCount := by
  refine fun s r => ⟨?_, rfl⟩
  rw [exec, execAvail]
  exact runLocal_responds r r.1 rfl

/-- Settles O59: the response is the data register, which the latch leaves alone. -/
theorem getdRespondsTheDataRegister : Obligations.GetdRespondsTheDataRegister := by
  refine fun s r => ⟨?_, rfl⟩
  rw [exec, execGetd]
  exact runLocal_responds r r.1 rfl

/-- Settles O60: by the two cases of `AVAIL`. Where bytes are left, the counts put `CURSOR` below the capacity (R47), so
the read is in range and does not fault. -/
theorem recvConsumesOneByte : Obligations.RecvConsumesOneByte := by
  refine fun s r hc => ⟨fun h0 => ?_, fun h0 => ?_, rfl⟩ <;> rw [exec, execRecv]
  · exact runLocal_responds r r.1 (if_pos h0)
  · have hlt : s.cursor.toNat < s.cfg.rxcap := cursor_lt_rxcap hc h0
    exact runLocal_responds (s' := { s with cursor := s.cursor + 1, avail := s.avail - 1 }) r r.1
      ((if_neg h0).trans (if_pos hlt))

end Sys2Proof.Machine
end

section
/-! PROOFS. The register contract of the bus side (43_bus_side R191 to R204, R220): the completions and their table,
what no turn of the bus side does, and that the line level and the nominal bus do nothing but the contract's
completions. -/
namespace Sys2Proof.Machine

/-! ### The two completions -/

/-- An enabled turn completes a pending start, transfer or `BadAct`, with any status and byte (R191, R194). -/
theorem busDone_completes {s : State} (hen : ctrlEN s.ctrl = true) (hact : s.pend ≠ .noAct) (hstop : s.pend ≠ .stopAct)
    (st b : Byte) (r : Bool) : busDone st b r s = completeAction st b r s := by
  rw [busDone, if_pos hen]
  cases hp : s.pend
  case noAct => exact absurd hp hact
  case stopAct => exact absurd hp hstop
  all_goals rfl

/-- An enabled turn completes a pending stop (R191, R196). -/
theorem busStop_completes {s : State} (hen : ctrlEN s.ctrl = true) (hact : s.pend = .stopAct) :
    busStop s = completeStop s := by
  simp only [busStop, hen, if_true, hact]

/-- What the flag a completion sets does to `CTRL` (R35, R194). -/
theorem setCF_bits (c : Ctrl) :
    ctrlEN (setCF c) = ctrlEN c ∧ ctrlEA (setCF c) = ctrlEA c ∧ ctrlSTA (setCF c) = ctrlSTA c ∧
      ctrlSTO (setCF c) = ctrlSTO c ∧ ctrlCF (setCF c) = true := by
  revert c
  decide

/-- What a completed stop does to `CTRL` (R34, R196). -/
theorem clearSTO_bits (c : Ctrl) :
    ctrlEN (clearSTO c) = ctrlEN c ∧ ctrlEA (clearSTO c) = ctrlEA c ∧ ctrlSTA (clearSTO c) = ctrlSTA c ∧
      ctrlSTO (clearSTO c) = false ∧ ctrlCF (clearSTO c) = ctrlCF c := by
  revert c
  decide

/-- The statuses R200's table has a row for. -/
def tabledStatuses (cfg : Params) : List Byte :=
  [cfg.stStart, cfg.stRepStart, cfg.stMtSlaAck, cfg.stMtSlaNack, cfg.stMrSlaAck, cfg.stMrSlaNack, cfg.stLostArb]

/-- A status without a row leaves `HELD` and `MODE` alone (R200). -/
theorem after_of_untabled {cfg : Params} {st : Byte} (h : st ∉ tabledStatuses cfg) (held : Bool) (mode : XMode) :
    heldAfter cfg st held = held ∧ modeAfter cfg st mode = mode := by
  simp only [tabledStatuses, List.mem_cons, List.not_mem_nil, or_false, not_or] at h
  obtain ⟨h1, h2, h3, h4, h5, h6, h7⟩ := h
  exact ⟨by simp [heldAfter, h1, h2, h7], by simp [modeAfter, h1, h2, h3, h4, h5, h6, h7]⟩

/-- Settles O27: the turn is the completion, whose effect on `HELD` and `MODE` is looked up in R200's table row by
row. -/
theorem completionFollowsTheContract : Obligations.CompletionFollowsTheContract := by
  intro s st b r hcfg hen hpend
  have hact : s.pend ≠ .noAct := by rcases hpend with h | h | h <;> simp [h]
  have hstop : s.pend ≠ .stopAct := by rcases hpend with h | h | h <;> simp [h]
  obtain ⟨-, -, -, -, hcf⟩ := setCF_bits s.ctrl
  obtain ⟨-, -, heldMtAck, heldMtNack, -, -, heldLost, heldMrAck, heldMrNack, -, -⟩ := heldAfter_named s.cfg hcfg s.held
  obtain ⟨-, -, modeMtAck, modeMtNack, -, -, modeLost, modeMrAck, modeMrNack, -, -⟩ := modeAfter_named s.cfg hcfg s.mode
  rw [busDone_completes hen hact hstop]
  refine ⟨rfl, hcf, rfl, rfl, fun h => ⟨heldAfter_of_start h _, modeAfter_of_start h _⟩, ?_, ?_, ?_,
    fun h => after_of_untabled h s.held s.mode⟩
  · rintro (rfl | rfl)
    · exact ⟨heldMtAck, modeMtAck⟩
    · exact ⟨heldMtNack, modeMtNack⟩
  · rintro (rfl | rfl)
    · exact ⟨heldMrAck, modeMrAck⟩
    · exact ⟨heldMrNack, modeMrNack⟩
  · rintro rfl
    exact ⟨heldLost, modeLost⟩

/-- Settles O28: the turn is the completion of the stop. -/
theorem stopCompletionReleasesTheBus : Obligations.StopCompletionReleasesTheBus := by
  intro s hen hact
  obtain ⟨hen', -, -, hsto, hcf⟩ := clearSTO_bits s.ctrl
  rw [busStop_completes hen hact]
  exact ⟨hsto, hcf, hen'.trans hen, rfl, rfl, rfl, rfl, rfl, rfl⟩

/-! ### What no turn of the bus side does (R191, R203) -/

/-- Settles O29: both completions need `EN = 1` and an action pending, so only a move of the line level is left. -/
theorem busSideIsStableWithNothingPending : Obligations.BusSideIsStableWithNothingPending := by
  intro e s hbus hquiet
  have hm := envStep_move e s hbus
  generalize envStep e s = t at hm ⊢
  cases hm with
  | lines l => rfl
  | complete st b r l hen hact hstop =>
    rcases hquiet with hpend | hdis
    · exact absurd hpend hact
    · exact nomatch hen.symm.trans hdis
  | stop l hen hact =>
    rcases hquiet with hpend | hdis
    · exact nomatch hact.symm.trans hpend
    · exact nomatch hen.symm.trans hdis

/-- The pending action has no defined direction: `BadAct`, or a transfer with `MODE = NONE` and `HELD = 0`
(R193, R199). -/
def Undirected (s : State) : Prop := s.pend = .badAct ∨ s.pend = .xferAct ∧ xferDir s.held s.mode = .undefined

/-- A byte is received by a transfer in the receiving direction, or by an action with no direction of which the turn
says so (R193, R199; log entry 11). -/
theorem receivesByte_iff (s : State) (r : Bool) :
    receivesByte s r = true ↔
      (s.pend = .xferAct ∧ xferDir s.held s.mode = .receive) ∨ (Undirected s ∧ r = true) := by
  unfold receivesByte Undirected
  cases s.pend
  case xferAct => cases xferDir s.held s.mode <;> simp
  all_goals simp

/-- An action with no direction makes progress only in an oracle turn: the nominal bus has no answer to it and the line
level gives it no progress (R199; log entries 17 and 30). -/
theorem envStep_of_undirected {s : State} (h : Undirected s) {e : EnvEvent} (hbus : e.isBus = true) :
    (∃ l, envStep e s = withLine l s) ∨ ∃ st b r, e = .done st b r := by
  have stays : busStop s = s ∧ (∀ ack b, busNominal ack b s = s) ∧
      ∀ l scl sda started stopped, lineMove scl sda started stopped (withLine l s) = withLine l s := by
    rcases h with hp | ⟨hp, hd⟩ <;> simp [busStop, busNominal, lineMove, *]
  obtain ⟨hstop, hnominal, hline⟩ := stays
  cases e with
  | done st b r => exact .inr ⟨st, b, r, rfl⟩
  | sto => exact .inl ⟨s.line, hstop⟩
  | nominal ack b => exact .inl ⟨s.line, hnominal ack b⟩
  | line a b =>
    left
    rw [envStep, lineStep]
    split
    · exact ⟨_, hline _ _ _ _ _⟩
    · exact ⟨s.line, rfl⟩
  | tick | send | takeRsp | takeRx | rst => exact absurd hbus (by simp [EnvEvent.isBus])

/-- A completion writes `DATA` only where a byte is received (R194). -/
theorem receivesByte_of_busDone {s : State} {st b : Byte} {r : Bool} (h : (busDone st b r s).data ≠ s.data) :
    receivesByte s r = true := by
  by_contra hr
  refine h ?_
  unfold busDone
  split
  · cases s.pend <;> simp [completeAction, hr]
  · rfl

/-- `DATA` is written by a receiving transfer, or in an oracle turn that says so of an action with no direction
(R193, R199, R203; log entries 11 and 33). -/
theorem receives_of_data_ne {e : EnvEvent} {s : State} (hbus : e.isBus = true) (h : (envStep e s).data ≠ s.data) :
    (s.pend = .xferAct ∧ xferDir s.held s.mode = .receive) ∨
      (Undirected s ∧ ∃ st b, e = .done st b true) := by
  by_cases hd : Undirected s
  · rcases envStep_of_undirected hd hbus with ⟨l, hl⟩ | ⟨st, b, r, rfl⟩
    · exact absurd (congrArg State.data hl) h
    · rcases (receivesByte_iff s r).mp (receivesByte_of_busDone h) with hrecv | ⟨-, rfl⟩
      · exact .inl hrecv
      · exact .inr ⟨hd, st, b, rfl⟩
  · have hm := envStep_move e s hbus
    generalize envStep e s = t at hm h
    cases hm with
    | lines l => exact absurd rfl h
    | complete st b r l hen hact hstop =>
      rw [← busDone_completes hen hact hstop st b r] at h
      exact ((receivesByte_iff s r).mp (receivesByte_of_busDone h)).imp_right fun hu => absurd hu.1 hd
    | stop l hen hact => exact absurd rfl h

/-- What a turn of the bus side does to `CTRL` and `PEND`: nothing, the completion's flag, or the end of the stop, and the
two completions end the action (R194, R196). -/
theorem BusMove.control {s t : State} (h : BusMove s t) :
    (t.ctrl = s.ctrl ∧ t.pend = s.pend ∧ t.data = s.data) ∨
      (t.ctrl = setCF s.ctrl ∧ s.pend ≠ .noAct ∧ t.pend = .noAct) ∨
      (t.ctrl = clearSTO s.ctrl ∧ t.pend = .noAct ∧ t.data = s.data) := by
  cases h with
  | lines l => exact .inl ⟨rfl, rfl, rfl⟩
  | complete st b r l hen hact hstop => exact .inr (.inl ⟨rfl, hact, rfl⟩)
  | stop l hen hact => exact .inr (.inr ⟨rfl, rfl, rfl⟩)

theorem BusMove.now {s t : State} (h : BusMove s t) : t.now = s.now := by
  cases h <;> rfl

theorem ne_rst_of_isBus {e : EnvEvent} (h : e.isBus = true) : e ≠ .rst := by
  rintro rfl
  exact absurd h (by decide)

/-- Settles O30: `CTRL`, `PEND` and `DATA` by the three things a turn can do, the other registers by the frame of the
other agents' turns. -/
theorem busSideNeverOversteps : Obligations.BusSideNeverOversteps := by
  intro e s hbus
  have hm := envStep_move e s hbus
  have hk := envStep_keeps e s (ne_rst_of_isBus hbus)
  simp only [hk.timeout, hm.now, hk.t0, hk.rc, hk.busy, hk.cmderr, hk.opc, hk.sla, hk.sel, hk.cnt, hk.txlen, hk.saved,
    hk.seq, hk.outc, hk.rxbuf, hk.txbuf, hk.avail, hk.cursor, hk.total, and_true]
  rcases hm.control with ⟨hc, hp, hd⟩ | ⟨hc, hact, hp⟩ | ⟨hc, hp, hd⟩ <;> rw [hc, hp]
  · exact ⟨rfl, rfl, rfl, id, id, fun h => absurd rfl h, .inl rfl, fun h => absurd hd h⟩
  · obtain ⟨hen, hea, hsta, hsto, hcf⟩ := setCF_bits s.ctrl
    exact ⟨hen, hea, hsta, fun h => hsto.symm.trans h, fun _ => hcf, fun _ => ⟨hact, rfl⟩, .inr rfl,
      fun h => ⟨hcf, rfl, receives_of_data_ne hbus h⟩⟩
  · obtain ⟨hen, hea, hsta, hsto, hcf⟩ := clearSTO_bits s.ctrl
    exact ⟨hen, hea, hsta, fun h => absurd (hsto.symm.trans h) Bool.false_ne_true, fun h => hcf.trans h,
      fun h => absurd hcf h, .inr rfl, fun h => absurd hd h⟩

/-! ### The line level and the nominal bus (R201, R220) -/

/-- Where the action has a direction the turn's flag is not read (R193, R194; log entry 11). -/
theorem completeAction_of_directed {s : State} (h : ¬ Undirected s) (st b : Byte) (r : Bool) :
    completeAction st b r s = completeAction st b false s := by
  have hr : receivesByte s r = receivesByte s false := by
    rw [Bool.eq_iff_iff, receivesByte_iff, receivesByte_iff]
    simp [h]
  simp only [completeAction, hr]

/-- What a turn of the bus side does to an action with a direction is the contract's, with no flag read. -/
theorem BusMove.contract {s t : State} (h : BusMove s t) (hd : ¬ Undirected s) :
    t = { s with line := t.line } ∨ (∃ st b, t = { busDone st b false s with line := t.line }) ∨
      t = { busStop s with line := t.line } := by
  cases h with
  | lines l => exact .inl rfl
  | complete st b r l hen hact hstop =>
    refine .inr (.inl ⟨st, b, ?_⟩)
    rw [busDone_completes hen hact hstop, completeAction_of_directed hd st b r]
  | stop l hen hact => exact .inr (.inr (by rw [busStop_completes hen hact]))

/-- The nominal bus's answer is one of the contract's (R201). -/
theorem busNominal_contract (s : State) (ack : Bool) (b : Byte) :
    busNominal ack b s = s ∨ (∃ st, busNominal ack b s = busDone st b false s) ∨ busNominal ack b s = busStop s := by
  cases hen : ctrlEN s.ctrl
  · exact .inl (by simp [busNominal, hen])
  · cases hp : s.pend
    case noAct | badAct => exact .inl (by simp [busNominal, hp])
    case startAct =>
      refine .inr (.inl ?_)
      simp only [busNominal, busDone, hen, hp, if_true]
      exact ⟨_, rfl⟩
    case xferAct =>
      cases hd : xferDir s.held s.mode
      case undefined => exact .inl (by simp [busNominal, hp, hd])
      all_goals
        refine .inr (.inl ?_)
        simp only [busNominal, busDone, hen, hp, hd, if_true]
        exact ⟨_, rfl⟩
    case stopAct => exact .inr (.inr (by simp only [busNominal, busStop, hen, hp]))

/-- Settles O31: an action with a direction moves as the contract says, and one without makes no progress on the
lines. -/
theorem lineLevelAndNominalBusRefineTheContract : Obligations.LineLevelAndNominalBusRefineTheContract := by
  refine ⟨fun s a b => ?_, busNominal_contract⟩
  by_cases hd : Undirected s
  · rcases envStep_of_undirected hd (e := .line a b) rfl with ⟨l, hstays⟩ | ⟨st, d, r, he⟩
    · rw [show lineStep a b s = withLine l s from hstays]
      exact .inl rfl
    · exact nomatch he
  · exact (lineStep_move a b s).contract hd

end Sys2Proof.Machine
end

section
/-! PROOFS. A byte this master sends, at the line level (43_bus_side R205, R208, R210 to R212): one turn in each position
of a bit, four turns to a bit, and the acknowledge bit; arbitration lost on the way. -/
namespace Sys2Proof.Machine

/-- A transfer that sends a byte is under way: the controller is enabled, the bus held, the direction R193's. -/
structure Sending (s : State) : Prop where
  enabled : ctrlEN s.ctrl = true
  pending : s.pend = .xferAct
  held : s.held = true
  direction : xferDir s.held s.mode = .send

/-- Whether a sample of the two lines shows a start or a stop condition (R206). -/
def conditionSeen (l : Line) (scl sda : Bool) : Bool := startSeen l.seen scl sda || stopSeen l.seen scl sda

/-- No condition stands between two samples of the same levels (R206). -/
theorem conditionSeen_same {l : Line} {scl sda : Bool} (h : l.seen = some (scl, sda)) :
    conditionSeen l scl sda = false := by
  simp only [conditionSeen, h, startSeen, stopSeen]
  cases scl <;> cases sda <;> rfl

section
variable {s : State} (h : Sending s)
include h

/-- While a byte is sent and nobody stretches the clock, a turn of the line level is a turn of the transmitter
(R205, R211); `d` says whether the other devices release data. -/
theorem Sending.lineStep_eq (l : Line) (d : Bool) :
    lineStep true d (withLine l s) =
      lineXfer true l.sclO (l.sdaO && d) (conditionSeen l l.sclO (l.sdaO && d))
        (withLine (track l.sclO (l.sdaO && d) l) s) := by
  have hdir := h.direction
  rw [h.held] at hdir
  simp only [lineStep, lineMove, withLine_ctrl, withLine_line, withLine_pend, withLine_held, withLine_mode, h.enabled,
    h.pending, h.held, hdir, if_true, Bool.and_true]
  rfl

/-- A transfer that sends receives nothing (R193), whatever the lines did meanwhile. -/
theorem Sending.receives_nothing (l : Line) (r : Bool) : receivesByte (withLine l s) r = false := by
  simp only [receivesByte, withLine_pend, withLine_held, withLine_mode, h.pending, h.direction]

end

/-! ### The transmitter in each position of a bit (R211) -/

/-- Bit `n` of the byte, the bit 8 being the acknowledge, is put on the data line and the clock not yet released. -/
structure BitStands (n : Nat) (l : Line) : Prop where
  phase : l.phase = .bitRise
  number : l.bitn = n
  driven : l.sdaO = outgoingBit true false l

/-- Bit `n` is about to be put on the data line; for the first bit the transfer has not begun. -/
def BitBegins (n : Nat) (l : Line) : Prop := (l.phase = .idle ∧ n = 0) ∨ (l.phase = .bitSet ∧ l.bitn = n)

section
variable {s : State} {l : Line}

/-- The first turn of a bit puts it on the data line (R211, R212). -/
theorem lineXfer_puts {n : Nat} (h : BitBegins n l) (scl sda cond : Bool) :
    ∃ l', BitStands n l' ∧ lineXfer true scl sda cond (withLine l s) = withLine l' s := by
  rcases h with ⟨hp, rfl⟩ | ⟨hp, rfl⟩
  · exact ⟨{ l with shift := s.data, bitn := 0, sdaO := s.data.getLsbD 7, phase := .bitRise }, ⟨rfl, rfl, rfl⟩,
      by simp only [lineXfer, withLine_line, hp]; rfl⟩
  · exact ⟨{ l with sdaO := outgoingBit true false l, phase := .bitRise }, ⟨rfl, rfl, rfl⟩,
      by simp only [lineXfer, withLine_line, hp]; rfl⟩

/-- The second turn releases the clock. -/
theorem lineXfer_releases (hp : l.phase = .bitRise) (scl sda cond : Bool) :
    lineXfer true scl sda cond (withLine l s) = withLine { l with sclO := true, phase := .bitHigh } s := by
  simp only [lineXfer, withLine_line, hp]
  rfl

/-- The third turn samples the data line with the clock high; a bit this master has not released, or one that is high, is
not lost (R210). -/
theorem lineXfer_samples (hp : l.phase = .bitHigh) {sda : Bool}
    (hkept : arbitratedBit true l = true → outgoingBit true false l = true → sda = true) (cond : Bool) :
    lineXfer true true sda cond (withLine l s) = withLine { l with samp := sda, phase := .bitFall } s := by
  have hnot : (arbitratedBit true l && outgoingBit true (ctrlEA s.ctrl) l && !sda) = false := by
    rw [Bool.eq_false_iff]
    intro hlost
    simp only [Bool.and_eq_true, Bool.not_eq_true'] at hlost
    obtain ⟨⟨harb, hout⟩, hlow⟩ := hlost
    exact nomatch (hkept harb hout).symm.trans hlow
  simp only [lineXfer, withLine_line, withLine_ctrl, hp, hnot]
  rfl

/-- A released bit that is sampled low in one of the eight ends the transfer (R210). -/
theorem lineXfer_loses (hp : l.phase = .bitHigh) (hbit : l.bitn < 8) (hone : l.shift.getLsbD 7 = true) (cond : Bool) :
    lineXfer true true false cond (withLine l s) =
      completeAction s.cfg.stLostArb l.shift false (withLine l s) := by
  simp [lineXfer, hp, arbitratedBit, outgoingBit, hbit, hone]

/-- The fourth turn of one of the eight bits pulls the clock low and goes to the next bit. -/
theorem lineXfer_nextBit (hp : l.phase = .bitFall) (hbit : l.bitn < 8) (scl sda : Bool) :
    ∃ l', BitBegins (l.bitn + 1) l' ∧ lineXfer true scl sda false (withLine l s) = withLine l' s := by
  refine ⟨{ l with
      sclO := false, shift := l.shift <<< 1 ||| (BitVec.ofBool l.samp).setWidth 8, bitn := l.bitn + 1, phase := .bitSet },
    .inr ⟨rfl, rfl⟩, ?_⟩
  simp only [lineXfer, withLine_line, hp, hbit, if_true]
  rfl

/-- The fourth turn of the acknowledge bit completes the transfer: the bit sampled decides the status (R211, R212). -/
theorem lineXfer_ends (hp : l.phase = .bitFall) (hbit : l.bitn = 8) (scl sda : Bool) :
    lineXfer true scl sda false (withLine l s) =
      completeAction (xferStatus s.cfg s.mode s.data (ctrlEA s.ctrl) l.samp) l.shift false
        (withLine { l with sclO := false } s) := by
  simp only [lineXfer, withLine_line, hp, hbit]
  rfl

end

/-- Settles O32: the turn finds the bit lost and completes the transfer, and R200 gives up the bus for that status. -/
theorem arbitrationIsLostOnASampledZero : Obligations.ArbitrationIsLostOnASampledZero := by
  intro s b hcfg hen hpend hheld hdir hphase hbit hone hscl hlow
  have h : Sending s := ⟨hen, hpend, hheld, hdir⟩
  obtain ⟨-, -, -, -, -, -, heldLost, -, -, -, -⟩ := heldAfter_named s.cfg hcfg s.held
  obtain ⟨-, -, -, -, -, -, modeLost, -, -, -, -⟩ := modeAfter_named s.cfg hcfg s.mode
  obtain ⟨-, -, -, -, hcf⟩ := setCF_bits s.ctrl
  have hlost : lineStep true b s =
      completeAction s.cfg.stLostArb s.line.shift false (withLine (track true false s.line) s) := by
    have hstep := h.lineStep_eq s.line b
    rw [hscl, hlow, lineXfer_loses (l := track true false s.line) hphase hbit hone] at hstep
    exact hstep
  rw [hlost]
  refine ⟨rfl, hcf, rfl, heldLost, modeLost, ?_, ?_, ?_⟩
  · simp [completeAction, settleLine, heldLost]
  · simp [completeAction, settleLine, heldLost]
  · simp [completeAction, h.receives_nothing]

/-! ### A whole byte (R211) -/

theorem lineRun_append (ls ls' : List (Bool × Bool)) (s : State) :
    lineRun (ls ++ ls') s = lineRun ls' (lineRun ls s) := by
  induction ls generalizing s with
  | nil => rfl
  | cons p ls ih => exact ih _

/-- The line level one turn after the bit was put, the data line being at the level `v`: the clock is released. -/
def releasedLine (v : Bool) (l : Line) : Line := { track l.sclO v l with sclO := true, phase := .bitHigh }

/-- The line level one turn later: the bit is sampled with the clock high (R206, R211). -/
def sampledLine (v : Bool) (l : Line) : Line :=
  { track true v (releasedLine v l) with samp := v, phase := .bitFall }

/-- On quiet lines this master's bit is the level of the data line in each of the eight bits, and the acknowledger's `d`
in the ninth (R211). -/
theorem BitStands.level {n : Nat} {l : Line} (hl : BitStands n l) {d : Bool} (hd : n < 8 → d = true) :
    (l.sdaO && d) = if n < 8 then l.sdaO else d := by
  split
  case isTrue hlt => rw [hd hlt, Bool.and_true]
  case isFalse hge =>
    have hreleased : l.sdaO = true := by
      rw [hl.driven, outgoingBit, if_pos rfl, hl.number, if_neg hge]
    rw [hreleased, Bool.true_and]

section
variable {s : State} (h : Sending s) {n : Nat} {l : Line} {d : Bool}
include h

/-- The second and third turn of a bit release the clock and sample the data line, where nobody else drives it during the
eight bits. -/
theorem Sending.lineRun_sample (hl : BitStands n l) (hd : n < 8 → d = true) :
    lineRun [(true, d), (true, d)] (withLine l s) = withLine (sampledLine (l.sdaO && d) l) s := by
  have hkept : arbitratedBit true l = true → outgoingBit true false l = true → (l.sdaO && d) = true := by
    intro harb hout
    have hlt : n < 8 := hl.number ▸ of_decide_eq_true harb
    rw [hl.level hd, if_pos hlt, hl.driven, hout]
  rw [lineRun, h.lineStep_eq, lineXfer_releases (l := track _ _ l) hl.phase, lineRun, h.lineStep_eq]
  exact lineXfer_samples (l := track true _ (releasedLine _ l)) rfl hkept _

/-- The first three turns of a bit on quiet lines put, release and sample it; in the fourth no condition is seen. -/
theorem Sending.lineRun_bit (hl : BitBegins n l) (hd : n < 8 → d = true) :
    ∃ l' sda, l'.phase = .bitFall ∧ l'.bitn = n ∧ (8 ≤ n → l'.samp = d) ∧
      lineRun (List.replicate 4 (true, d)) (withLine l s) = lineXfer true true sda false (withLine l' s) := by
  obtain ⟨l₁, h₁, hput⟩ := lineXfer_puts (s := s) (l := track l.sclO (l.sdaO && d) l) hl l.sclO (l.sdaO && d)
    (conditionSeen l l.sclO (l.sdaO && d))
  refine ⟨track true (l₁.sdaO && d) (sampledLine (l₁.sdaO && d) l₁), l₁.sdaO && d, rfl, h₁.number,
    fun h8 => (h₁.level hd).trans (if_neg (Nat.not_lt.mpr h8)), ?_⟩
  calc lineRun (List.replicate 4 (true, d)) (withLine l s)
    _ = lineStep true d (lineRun [(true, d), (true, d)] (lineStep true d (withLine l s))) := rfl
    _ = lineStep true d (withLine (sampledLine (l₁.sdaO && d) l₁) s) := by
      rw [h.lineStep_eq l, hput, h.lineRun_sample h₁ hd]
    _ = _ := by
      rw [h.lineStep_eq, conditionSeen_same rfl]
      rfl

/-- After `n` bits on quiet lines the transmitter stands at the bit numbered `n`, having touched nothing but its lines. -/
theorem Sending.lineRun_bits (hl : BitBegins 0 l) (n : Nat) (hn : n ≤ 8) :
    ∃ l', BitBegins n l' ∧ lineRun (List.replicate (4 * n) (true, true)) (withLine l s) = withLine l' s := by
  induction n with
  | zero => exact ⟨l, hl, rfl⟩
  | succ n ih =>
    obtain ⟨l₁, h₁, hrun⟩ := ih (Nat.le_of_succ_le hn)
    obtain ⟨l₂, sda, hphase, rfl, -, hbit⟩ := h.lineRun_bit h₁ (fun _ => rfl)
    obtain ⟨l₃, h₃, hnext⟩ := lineXfer_nextBit (s := s) hphase hn true sda
    exact ⟨l₃, h₃, by rw [Nat.mul_succ, List.replicate_add, lineRun_append, hrun, hbit, hnext]⟩

/-- A completion reached from any lines is the contract's, outside the line level; a transfer that sends reads no byte
(R193, R220). -/
theorem Sending.completes (l : Line) (st b : Byte) :
    ∃ l', completeAction st b false (withLine l s) = { busDone st 0 false s with line := l' } := by
  refine ⟨(completeAction st b false (withLine l s)).line, ?_⟩
  rw [busDone_completes h.enabled (by simp [h.pending]) (by simp [h.pending])]
  have hsilent : receivesByte s false = false := h.receives_nothing s.line false
  simp only [completeAction, h.receives_nothing, hsilent]
  rfl

/-- A byte on quiet lines, whose receiver answers the ninth bit with `ack`: 36 turns of the line level do the contract's
completion, with the status of the bit sampled (R211, R212, R220). -/
theorem Sending.lineRun_byte (hl : s.line.phase = .idle) (ack : Bool) :
    ∃ l, lineRun (List.replicate 32 (true, true) ++ List.replicate 4 (true, !ack)) s =
      { busDone (nominalXfer s.cfg s.mode s.data (ctrlEA s.ctrl) ack) 0 false s with line := l } := by
  obtain ⟨l₁, h₁, hbyte⟩ := h.lineRun_bits (l := s.line) (.inl ⟨hl, rfl⟩) 8 le_rfl
  obtain ⟨l₂, sda, hphase, hnumber, hsamp, hack⟩ := h.lineRun_bit (d := !ack) h₁ (fun h8 => absurd h8 (Nat.lt_irrefl 8))
  obtain ⟨l₃, hdone⟩ := h.completes { l₂ with sclO := false } (nominalXfer s.cfg s.mode s.data (ctrlEA s.ctrl) ack)
    l₂.shift
  refine ⟨l₃, Eq.trans ?_ hdone⟩
  have hbyte : lineRun (List.replicate 32 (true, true)) s = withLine l₁ s := hbyte
  rw [lineRun_append, hbyte, hack, lineXfer_ends hphase hnumber, xferStatus, hsamp le_rfl, Bool.not_not]

end

/-- Settles O33: an address byte is a byte this master sends, and its status is the nominal bus's for the address
phase. Neither the constraints on the parameters nor a low clock at the start are needed. -/
theorem addressByteIsSentAndAcknowledged : Obligations.AddressByteIsSentAndAcknowledged := by
  intro s ack _ hen hpend hheld hmode hphase _
  have h : Sending s := ⟨hen, hpend, hheld, by rw [hheld, hmode]; rfl⟩
  obtain ⟨l, hl⟩ := h.lineRun_byte hphase ack
  rw [hmode] at hl
  exact ⟨l, hl⟩

end Sys2Proof.Machine
end

section
/-! PROOFS. The exceptions: lockup recovery as the two writes it consists of, a bus fault and a slave's refusal in a
primitive command, the return codes, and the turns of the clock and the host (60_exceptions R227 to R233, R244,
R282). -/
namespace Sys2Proof.Machine

/-! ### The two writes of lockup recovery (R230) -/

/-- Everything the two writes change, from whatever state they are made in (R197, R202, R230). -/
theorem ctrlWrite_disable_idle (s : State) :
    ctrlWrite 0b00011 (ctrlWrite 0b00000 s) =
      { s with
        ctrl := 0b00011, pend := .noAct, held := false, mode := .noMode, status := Config.freeByte s.free,
        line := Line.released, free := s.free + 1, ev := s.ev ++ [.ctrl 0b00000, .ctrl 0b00011] } := by
  rw [ctrlWrite_idle, ctrlWrite_disable]
  simp [disable, emit, freshStatus, idleCtrl]

/-- The controller is idle after lockup recovery, with `CTRL = 0b00011`, and after a stop, with `CTRL = 0b00001`
(R270). -/
theorem idle_of_ctrl {s : State} (hc : s.ctrl = 0b00011 ∨ s.ctrl = 0b00001) (hp : s.pend = .noAct)
    (hh : s.held = false) : Idle s := by
  rcases hc with hc | hc
  all_goals
    rw [Idle, hc]
    exact ⟨rfl, rfl, rfl, rfl, hp, hh⟩

/-- Settles O26: the two instructions are the two writes. -/
theorem lockupRestoresTheIdleState : Obligations.LockupRestoresTheIdleState := by
  intro s u t hdisable hidle
  obtain rfl : ctrlWrite 0b00000 s = u := Host.Outcome.next.inj hdisable
  obtain rfl : ctrlWrite 0b00011 (ctrlWrite 0b00000 s) = t := Host.Outcome.next.inj hidle
  rw [ctrlWrite_disable_idle]
  exact ⟨idle_of_ctrl (.inl rfl) rfl rfl, _, Line.released, _, rfl, rfl, rfl⟩

/-! ### The return codes (R105, R232) -/

/-- Settles O39, by the cases of an outcome and the list of the steps. -/
theorem errorMapperGivesTheStepCodes : Obligations.ErrorMapperGivesTheStepCodes :=
  ⟨fun _ _ => ⟨rfl, rfl, rfl⟩, rfl⟩

/-! ### The turns of the clock and the host (R244, R282) -/

/-- Settles O34: each turn is its agent's one step. -/
theorem clockAndHostTurnsChangeOneElement : Obligations.ClockAndHostTurnsChangeOneElement := by
  intro s b ts
  refine ⟨fun h => step_env s .tick ts h, fun h => step_env s (.send b) ts h, fun h => ?_, fun h => ?_⟩
  · rw [← List.drop_one]
    exact step_env s .takeRsp ts h
  · rw [← List.drop_one]
    exact step_env s .takeRx ts h

/-! ### The end of a primitive command that failed -/

/-- A primitive command that began as `v` has ended as `t` with the status `st` as its return code, the controller idle
with `CTRL = w`, the trace longer by `es`, and the turns `rest` still to come (R145, R232). -/
structure FailedWith (v t : State) (st : Byte) (w : Ctrl) (es : List Ev) (rest : List Turn) : Prop where
  idle : EndedIdle v t st w rest
  saved : t.saved = st
  receive : ReceiveUntouched v t
  rxout : t.rxout = v.rxout
  trace : t.ev = v.ev ++ es

/-- The latching of a primitive command touches nothing `FailedWith` speaks of, and what its `M_DATA` writes is the
command's operand (R87, R133, R136). -/
theorem FailedWith.of_begun {i : Instr} {k : TStep} {p : Prim} {s t : State} {st : Byte} {w : Ctrl} {es : List Ev}
    {rest : List Turn} (hi : primitiveOf i = some (k, p)) (hm : MemoryOk s)
    (h : FailedWith (begun i s) t st w (dataWrites p (begun i s) ++ es) rest) :
    FailedWith s t st w (dataEvents i ++ es) rest := by
  obtain ⟨-, -, htx, -⟩ := hm
  have hu := usesBus_of_primitive hi
  obtain ⟨-, -, -, -, -, -, -, -, -, -, -, -, -, -, hrxout, -, hev, -⟩ := begun_keeps i s hu
  obtain ⟨hbuf, havail, hcursor, htotal⟩ := receiveUntouched_begun_primitive hi s
  obtain ⟨hidle, hsaved, hreceive, hout, htrace⟩ := h
  rw [ReceiveUntouched, hbuf, havail, hcursor, htotal] at hreceive
  rw [hev, dataWrites_begun hi s htx] at htrace
  exact ⟨endedIdle_of_begun hu hidle, hsaved, hreceive, hout.trans hrxout, htrace⟩

/-! ### A bus fault (R229) -/

/-- A primitive that failed with outcome `o` ends its command with the outcome's return code, once lockup recovery is
over (R145, R232). -/
theorem phaseDone_recovered {o : PrimResult} (ho : o ≠ .ok) {s : State} (hn : s.seq.nstop = false) :
    phaseDone (recovered o s) = finish (rcOf o (stepCode s.seq.tstep)) (recovered o s) := by
  rw [recovered_eq, phaseDone, if_neg (by simp [hn]), checkOutcome]
  cases o
  case ok => exact absurd rfl ho
  all_goals rfl

/-- Lockup recovery and the end of the command, from the failure on (R145, R230). -/
theorem runTurns_takeFailure {o : PrimResult} (ho : o ≠ .ok) {p : Prim} {s : State} (hb : s.busy = true)
    (hp : currentPrim s = some p) (hn : s.seq.nstop = false) (l : List Turn) :
    runTurns (engineTurns 2 ++ (engineTurns 1 ++ l)) (takeFailure o s) =
      .next { finish (rcOf o (stepCode s.seq.tstep)) (recovered o s) with script := l } := by
  rw [runTurns_recovery o hb hp]
  refine runTurns_finishes (p := p) ?_ ?_ ?_ (phaseDone_recovered ho hn) l
  all_goals rw [recovered_eq]
  · exact hb
  · exact hp

/-- A primitive answered with a bus fault ends in lockup recovery, and the status is the return code (R229). -/
theorem runTurns_busFault {p : Prim} {s : State} {st : Byte} (h : Begins p s) (hp : p ≠ .stop)
    (hn : s.seq.nstop = false) (hv : classify s.cfg p st = .busFault) (b : Byte) (r : Bool) (l : List Turn) :
    runTurns (primTurns p (.done st b r) ++ engineTurns 3 ++ l) s =
      .next { finish st (recovered (.status st) (statusSaved p st b r s)) with script := l } := by
  obtain ⟨line, hanswer⟩ := answered_eq hp st b r s
  have hsaved : phaseStatus p (gotoPhase .status (answered p st b r s)) =
      takeFailure (.status st) (statusSaved p st b r s) := by
    rw [statusSaved, hanswer]
    exact phaseStatus_of_busFault hv
  have hkept : (statusSaved p st b r s).busy = true ∧ currentPrim (statusSaved p st b r s) = some p ∧
      (statusSaved p st b r s).seq.nstop = false := by
    rw [statusSaved, hanswer]
    exact ⟨h.busy, h.prim, hn⟩
  obtain ⟨hb, hprim, hplain⟩ := hkept
  calc runTurns (primTurns p (.done st b r) ++ engineTurns 3 ++ l) s
    _ = runTurns (primTurns p (.done st b r) ++ (engineTurns 2 ++ (engineTurns 1 ++ l))) s := by
      rw [List.append_assoc]
      rfl
    _ = runTurns (engineTurns 2 ++ (engineTurns 1 ++ l)) (takeFailure (.status st) (statusSaved p st b r s)) := by
      rw [runTurns_primTurns h hp, hsaved]
    _ = .next { finish st (recovered (.status st) (statusSaved p st b r s)) with script := l } :=
      runTurns_takeFailure (by simp) hb hprim hplain l

/-- What such a command leaves: its own writes, one answer and one lockup reset in the trace (R229, R230). -/
theorem failedWith_busFault {p : Prim} (hp : p ≠ .stop) (st b : Byte) (r : Bool) (s : State) (l : List Turn) :
    FailedWith s { finish st (recovered (.status st) (statusSaved p st b r s)) with script := l } st 0b00011
      (dataWrites p s ++
        [.ctrl (armWord p), .done st (receivedByte p b r s), .ctrl 0b00000, .ctrl 0b00011, .rsp st]) l := by
  obtain ⟨line, hanswer⟩ := answered_eq hp st b r s
  rw [recovered_eq, statusSaved, hanswer]
  exact ⟨⟨rfl, rfl, rfl, idle_of_ctrl (.inl rfl) rfl rfl, rfl, rfl, rfl, rfl, rfl, rfl⟩, rfl, ⟨rfl, rfl, rfl, rfl⟩,
    rfl, by simp [finish, respond, emit, gotoPhase]⟩

/-- Settles O45: the primitive is answered, classified as a fault and recovered from. -/
theorem busFaultEndsInOneLockupReset : Obligations.BusFaultEndsInOneLockupReset := by
  intro i k p s st b r rest hr hm hi hp hv hs
  have hu := usesBus_of_primitive hi
  obtain ⟨-, -, -, -, -, hcfg, -⟩ := begun_keeps i s hu
  have hplain : (begun i s).seq.nstop = false := by rw [seq_begun_primitive hi]
  have hrun := runTurns_busFault (begins_begun hi s) hp hplain (by rwa [hcfg]) b r rest
  rw [← hs, ← exec_ready i s hu hr] at hrun
  have hmode : (recovered (.status st) (statusSaved p st b r (begun i s))).mode = .noMode := by rw [recovered_eq]
  obtain ⟨⟨hb, hrc, hrsp, hidle, hctrl, hscript, hconfig⟩, hsaved, hrecv, hrxout, htrace⟩ :=
    (failedWith_busFault hp st b r (begun i s) rest).of_begun hi hm
  rw [← List.append_assoc] at htrace
  exact ⟨_, _, hrun, hb, hrc, hsaved, hrsp, hidle, hctrl, hmode, hscript, hconfig, hrecv, hrxout, htrace⟩

/-! ### A slave's refusal (R127, R228) -/

/-- A refused send whose nested stop the bus side completes: the refusal's status is the return code (R127, R228). -/
theorem runTurns_refused_stops {p : Prim} {s : State} {st : Byte} (h : Begins p s) (hv : classify s.cfg p st = .nack)
    (hk : s.seq.tstep ≠ .noStep) (b : Byte) (r : Bool) (l : List Turn) :
    runTurns (sendTurns (.done st b r) ++ stopTurns .sto ++ engineTurns 2 ++ l) s =
      .next { finish st (endNestedStop (stopped (refused p st b r s))) with script := l } := by
  have hstop := begins_refused h st b r
  have hsaved : (refused p st b r s).saved = st := rfl
  obtain ⟨-, hp, -⟩ := send_of_nack hv
  obtain ⟨_, _, _, _, hrefused⟩ := refused_eq hp st b r s
  have hseq : (refused p st b r s).seq = { s.seq with mph := .t0, nstop := true } := by rw [hrefused]
  obtain ⟨hb, hkept, hdone⟩ := stopped_frame (refused p st b r s)
  rw [hseq] at hdone
  calc runTurns (sendTurns (.done st b r) ++ stopTurns .sto ++ engineTurns 2 ++ l) s
    _ = runTurns (stopTurns .sto ++ (engineTurns 2 ++ l)) (refused p st b r s) := by
      rw [List.append_assoc, List.append_assoc, runTurns_refused h hv]
    _ = runTurns (engineTurns 2 ++ l) (stopped (refused p st b r s)) := runTurns_stopTurns hstop _
    _ = .next { finish st (endNestedStop (stopped (refused p st b r s))) with script := l } := by
      rw [runTurns_nestedStop_ends (hb.trans hstop.busy) (by rw [hdone]) (by rw [hdone]) (by rwa [hdone]),
        hkept, hsaved]

/-- What such a command leaves: its own writes, the refusal and a completed stop in the trace (R127, R196). -/
theorem failedWith_refusal {p : Prim} (hp : p ≠ .stop) (st b : Byte) (r : Bool) (s : State) (l : List Turn) :
    FailedWith s { finish st (endNestedStop (stopped (refused p st b r s))) with script := l } st 0b00001
      (dataWrites p s ++
        [.ctrl (armWord p), .done st (receivedByte p b r s), .ctrl 0b11001, .sto, .rsp st]) l := by
  obtain ⟨line, hstopped⟩ := completeStop_launched (refused p st b r s)
  obtain ⟨_, _, _, _, hrefused⟩ := refused_eq hp st b r s
  rw [stopped, hstopped, hrefused]
  exact ⟨⟨rfl, rfl, rfl, idle_of_ctrl (.inr rfl) rfl rfl, rfl, rfl, rfl, rfl, rfl, rfl⟩, rfl, ⟨rfl, rfl, rfl, rfl⟩,
    rfl, by simp [finish, respond, emit, endNestedStop, gotoPhase]⟩

/-- Settles O46: the refused send comes to its nested stop, whose end is the command's. -/
theorem slaveRefusalIssuesAStop : Obligations.SlaveRefusalIssuesAStop := by
  intro i k p s st b r rest hr hm hi hv hs
  have hu := usesBus_of_primitive hi
  obtain ⟨-, -, -, -, -, hcfg, -⟩ := begun_keeps i s hu
  obtain ⟨-, hp, harm⟩ := send_of_nack hv
  have hstep : (begun i s).seq.tstep ≠ .noStep := by
    rw [seq_begun_primitive hi]
    exact step_of_primitive hi
  have hrun := runTurns_refused_stops (begins_begun hi s) (by rwa [hcfg]) hstep b r rest
  rw [← hs, ← exec_ready i s hu hr] at hrun
  obtain ⟨⟨hb, hrc, hrsp, hidle, hctrl, hscript, hconfig⟩, hsaved, hrecv, hrxout, htrace⟩ :=
    (failedWith_refusal hp st b r (begun i s) rest).of_begun hi hm
  rw [harm, ← List.append_assoc] at htrace
  exact ⟨_, _, hrun, hb, hrc, hsaved, hrsp, hidle, hctrl, hscript, hconfig, hrecv, hrxout, htrace⟩

end Sys2Proof.Machine
end

section
/-! PROOFS. Reset and the ends of commands (60_exceptions R227, R232, 70_reset R265, R271, R290): the reset values, a
primitive command whose action never completes, and the idle controller after a transaction or `STOP`. -/
namespace Sys2Proof.Machine

/-! ### Reset (R265) -/

/-- Settles O35: both states are the reset state but for the parameters, the script and the free counter. -/
theorem resetGivesTheStatedValues : Obligations.ResetGivesTheStatedValues := by
  intro t ht
  obtain ⟨s, rfl⟩ : ∃ s, t = resetNow s := by
    rcases ht with rfl | ⟨s, ts, hs, hstep⟩
    · exact ⟨State.reset, rfl⟩
    · rw [step_env s .rst ts hs] at hstep
      exact ⟨{ s with script := ts }, (Host.Outcome.next.inj hstep).symm⟩
  simp [resetNow, State.reset, SeqPtr.rest, Line.released]

/-! ### A primitive command whose action never completes (R227, R290) -/

/-- The end of a primitive command begun as `s` that has timed out after `n` ticks (R145, R230, R232). -/
def timedOut (p : Prim) (n : Nat) (s : State) : State :=
  finish (stepCode s.seq.tstep) (recovered .timeout (afterTicks n (launched p s)))

/-- Everything such a command has changed since it began: neither `SAVED`, nor the ReceiveBuffer, nor the threshold, nor
`CMDQ` (R227, R256). -/
theorem timedOut_eq (p : Prim) (n : Nat) (s : State) :
    timedOut p n s =
      { s with
        data := (dataOperand p s).getD s.data, now := s.now + BitVec.ofNat 32 n, t0 := s.now,
        status := Config.freeByte (s.free + 1), free := s.free + 2, ctrl := 0b00011, pend := .noAct, held := false,
        mode := .noMode, line := Line.released, rc := stepCode s.seq.tstep, outc := .timeout, seq := SeqPtr.rest,
        busy := false, rspq := s.rspq ++ [stepCode s.seq.tstep],
        ev := s.ev ++ dataWrites p s ++
          [.ctrl (armWord p), .ctrl 0b00000, .ctrl 0b00011, .rsp (stepCode s.seq.tstep)] } := by
  rw [timedOut, recovered_eq, afterTicks, launched_eq]
  simp [finish, respond, emit]

/-- The turns of a primitive command that times out: its arm, the ticks, the poll with lockup recovery, and the end of
the command (R121, R145). -/
theorem runTurns_timedOut {p : Prim} {s : State} {n : Nat} (h : Begins p s) (hplain : s.seq.nstop = false)
    (h0 : s.timeout ≠ 0) (hle : s.timeout.toNat ≤ n) (hn : n < 2 ^ 32) (l : List Turn) :
    runTurns (armTurns p ++ ticks n ++ engineTurns 4 ++ l) s = .next { timedOut p n s with script := l } := by
  have hseq : (afterTicks n (launched p s)).seq = { s.seq with mph := .poll } := by rw [afterTicks, launched_eq]
  have hdone : phaseDone (recovered .timeout (afterTicks n (launched p s))) = timedOut p n s := by
    rw [phaseDone_recovered (by simp) (by rw [hseq]; exact hplain), hseq]
    rfl
  have hb : (recovered .timeout (afterTicks n (launched p s))).busy = true := by
    rw [recovered_eq]
    exact (launched_busy p s).trans h.busy
  have hp : currentPrim (recovered .timeout (afterTicks n (launched p s))) = some p := by
    rw [recovered_eq]
    exact (currentPrim_launched p s).trans h.prim
  calc runTurns (armTurns p ++ ticks n ++ engineTurns 4 ++ l) s
    _ = runTurns (armTurns p ++ (ticks n ++ (engineTurns 3 ++ (engineTurns 1 ++ l)))) s := by
      simp only [List.append_assoc]
      rfl
    _ = runTurns (engineTurns 1 ++ l) (recovered .timeout (afterTicks n (launched p s))) :=
      runTurns_timesOut h h0 hle hn _
    _ = .next { timedOut p n s with script := l } := runTurns_finishes hb hp (by rw [recovered_eq]) hdone l

/-- Settles O48: the primitive times out, lockup recovery follows, and the step code is the return code. -/
theorem timeoutReturnsTheStepCode : Obligations.TimeoutReturnsTheStepCode := by
  intro i k p s n rest hr hm hi h0 hle hn hs
  obtain ⟨-, -, htx, -⟩ := hm
  have hu := usesBus_of_primitive hi
  have hseq := seq_begun_primitive hi s
  have hrecv := receiveUntouched_begun_primitive hi s
  obtain ⟨hto, -, herr, hcmdq, -, hcfg, -, -, -, -, -, -, -, -, hrxout, hrspq, hev, -, -, -, hsaved, -⟩ :=
    begun_keeps i s hu
  have hrun := runTurns_timedOut (begins_begun hi s) (by rw [hseq]) (by rwa [hto]) (by rwa [hto]) hn rest
  rw [← hs, ← exec_ready i s hu hr, timedOut_eq, dataWrites_begun hi s htx, hev, hrspq, hseq] at hrun
  exact ⟨_, hrun, rfl, rfl, rfl, idle_of_ctrl (.inl rfl) rfl rfl, rfl, hsaved, rfl, ⟨hto, herr, hcmdq, hcfg⟩, hrecv,
    hrxout, rfl⟩

/-! ### The end of a transaction or `STOP` (R168, R271) -/

/-- A transaction whose running primitive is not its `stop` does not end when that primitive succeeds (R152, R158,
R164). -/
theorem advance_busy {s : State} (hk : kindOf s.opc ≠ .primitive)
    (hstep : stepOfKind (kindOf s.opc) s.seq.tstep = true) (ht : s.seq.tstep ≠ .stop) :
    (advance s).busy = s.busy := by
  have payload (i : Byte) : (payloadOrStop i s).busy = s.busy := by
    unfold payloadOrStop
    split <;> rfl
  unfold advance
  cases hkind : kindOf s.opc <;> rw [hkind] at hstep <;> dsimp only
  case primitive => exact absurd hkind hk
  case write =>
    unfold advanceWrite
    cases hts : s.seq.tstep <;> dsimp only
    case start | addressWrite => rfl
    case dataSend =>
      cases s.seq.seg
      case selHi => rfl
      case selLo | payload => exact payload _
    case stop => exact absurd hts ht
    case noStep | repeatedStart | addressRead | dataReceive => simp [hts, stepOfKind] at hstep
  case read =>
    unfold advanceRead
    cases hts : s.seq.tstep <;> dsimp only
    case start | addressRead | dataReceive => rfl
    case stop => exact absurd hts ht
    case noStep | addressWrite | dataSend | repeatedStart => simp [hts, stepOfKind] at hstep
  case rread =>
    unfold advanceRRead
    cases hts : s.seq.tstep <;> dsimp only
    case start | addressWrite | repeatedStart | addressRead | dataReceive => rfl
    case dataSend => cases s.seq.seg <;> rfl
    case stop => exact absurd hts ht
    case noStep => simp [hts, stepOfKind] at hstep

/-- A micro-phase before `M_DONE` leaves `BUSY`, and only the store of a received byte begins another step (R121). -/
theorem microStep_before_done {s t : State} (h : microStep s = .next t) (hm : s.seq.mph ≠ .done) :
    t.busy = s.busy ∧ (s.seq.mph ≠ .rdData → t.seq.tstep = s.seq.tstep) := by
  have stores (u : State) (hb : u.busy = s.busy) : (nextReceive u).busy = s.busy := by
    unfold nextReceive
    split <;> exact hb
  rcases microStep_cases s t h with ⟨_, rfl⟩ | ⟨p, _, hcase⟩
  · exact ⟨rfl, fun _ => rfl⟩
  · rcases hcase with ⟨_, rfl⟩ | ⟨_, rfl⟩ | ⟨_, rfl⟩ | ⟨_, rfl⟩ | ⟨_, rfl⟩ | ⟨hrd, _, rfl⟩ | ⟨hrd, _, _, rfl⟩ |
      ⟨_, rfl⟩ | ⟨_, rfl⟩ | ⟨hdone, _⟩
    · obtain ⟨d, e, hdata⟩ := phaseData_eq p s
      rw [hdata]
      exact ⟨rfl, fun _ => rfl⟩
    · exact ⟨rfl, fun _ => rfl⟩
    · simp [phaseArm]
    · unfold phasePoll
      split
      · cases p <;> exact ⟨rfl, fun _ => rfl⟩
      · exact ⟨rfl, fun _ => rfl⟩
      · exact ⟨rfl, fun _ => rfl⟩
    · unfold phaseStatus
      split <;> exact ⟨rfl, fun _ => rfl⟩
    · exact ⟨stores _ rfl, fun hne => absurd hrd hne⟩
    · exact ⟨stores _ rfl, fun hne => absurd hrd hne⟩
    · simp [lockupFirst]
    · simp [lockupSecond]
    · exact absurd hdone hm

/-- What holds all along a transaction or `STOP`: it ends only with a `stop` or a failure, and leaves the controller
idle (R168, R271). -/
structure EndsIdle (v : State) : Prop where
  sound : Sound v
  running : v.busy = true → kindOf v.opc = .primitive → v.seq.tstep = .stop
  ended : v.busy = false → Idle v

theorem endsIdle_of_running {v : State} (h : Sound v) (hb : v.busy = true)
    (hrun : kindOf v.opc = .primitive → v.seq.tstep = .stop) : EndsIdle v :=
  ⟨h, fun _ => hrun, fun hf => absurd hf (by simp [hb])⟩

/-- A failure, and the `stop` a transaction or `STOP` ends with, end the command (R145, R151). -/
theorem checkOutcome_finishes {s : State} (h : s.outc ≠ .ok ∨ s.seq.tstep = .stop) :
    ∃ c, checkOutcome s = finish c s := by
  unfold checkOutcome
  cases ho : s.outc
  case ok => exact ⟨0, advance_stop (h.resolve_left (absurd ho))⟩
  case timeout | status => exact ⟨_, rfl⟩

section
variable {s t : State} (h : EndsIdle s) (hb : s.busy = true)
include h hb

/-- At the end of a primitive the command goes on to its next one, or it ends after a failure or a `stop`, with the
controller idle already (R145, R151, R271). -/
theorem endsIdle_phaseDone (hm : s.seq.mph = .done) : EndsIdle (phaseDone s) := by
  have hsound := sound_phaseDone h.sound hb hm
  cases hn : s.seq.nstop
  case true =>
    rw [phaseDone, if_pos hn] at hsound ⊢
    exact endsIdle_of_running hsound hb (h.running hb)
  case false =>
    rw [phaseDone, if_neg (by simp [hn])] at hsound ⊢
    by_cases hend : s.outc ≠ .ok ∨ s.seq.tstep = .stop
    · have hidle : Idle s := (h.sound.runningCtrl hb).idle hm (hend.imp_right .inl)
      obtain ⟨c, hc⟩ := checkOutcome_finishes hend
      rw [hc] at hsound ⊢
      exact ⟨hsound, fun hf => absurd hf Bool.false_ne_true, fun _ => hidle⟩
    · obtain ⟨ho, ht⟩ := not_or.mp hend
      have hadvance : checkOutcome s = advance s := by rw [checkOutcome, not_not.mp ho]
      have hk : kindOf s.opc ≠ .primitive := fun hk => ht (h.running hb hk)
      have hopc : (advance s).opc = s.opc := by
        obtain ⟨_, _, _, _, _, hadvanced⟩ := advanced_advance s
        rw [hadvanced]
      rw [hadvance] at hsound ⊢
      exact endsIdle_of_running hsound ((advance_busy hk (h.sound.runningSeq hb).step ht).trans hb)
        fun hprim => absurd (hopc ▸ hprim) hk

theorem endsIdle_microStep (hs : microStep s = .next t) : EndsIdle t := by
  rcases microStep_cases s t hs with ⟨-, rfl⟩ | ⟨p, hp, -⟩
  · exact h
  · by_cases hm : s.seq.mph = .done
    · rw [microStep_done s p hp hm] at hs
      obtain rfl := Host.Outcome.next.inj hs
      exact endsIdle_phaseDone h hb hm
    · obtain ⟨hbusy, hstep⟩ := microStep_before_done hs hm
      have hopc : t.opc = s.opc := (microStep_keeps s t hs).1.opc
      refine endsIdle_of_running (sound_microStep h.sound hb hs) (hbusy.trans hb) fun hk => ?_
      rw [hopc] at hk
      have hrd : s.seq.mph ≠ .rdData := fun hrd => by
        simpa [hk, isReadKind] using (tstep_of_rdData h.sound hb hp hrd).1
      exact (hstep hrd).trans (h.running hb hk)

end

/-- A reset leaves the controller idle; no other turn of another agent ends the command (R265, R267). -/
theorem endsIdle_envStep (e : EnvEvent) {s : State} (h : EndsIdle s) (hb : s.busy = true) : EndsIdle (envStep e s) := by
  have hsound := sound_envStep e h.sound
  by_cases he : e = .rst
  · subst he
    exact ⟨hsound, fun hf => absurd hf Bool.false_ne_true, fun _ => idle_of_ctrl (.inl rfl) rfl rfl⟩
  · have hk := envStep_keeps e s he
    refine endsIdle_of_running hsound (hk.busy.trans hb) ?_
    rw [hk.opc, hk.seq]
    exact h.running hb

/-- A transaction, and `STOP`, use the bus, and a transaction is no primitive command (R88, R145, R150). -/
theorem begun_transactionOrStop {i : Instr} (hi : isTransaction i = true ∨ i = .stop) (s : State) :
    usesBus i = true ∧ (kindOf (begun i s).opc = .primitive → (begun i s).seq.tstep = .stop) := by
  rcases hi with hi | rfl
  · cases i
    case write8 | write16 | read | readX | rread8 | rread16 | rread8X | rread16X =>
      simp [usesBus, begun, kindOf, Op.byte]
    all_goals simp [isTransaction] at hi
  · exact ⟨rfl, fun _ => rfl⟩

/-- Settles O21: by induction over the turns, with `EndsIdle` as the invariant. -/
theorem controllerIsIdleAfterATransactionOrStop : Obligations.ControllerIsIdleAfterATransactionOrStop := by
  intro i s t hs hi h hb
  obtain ⟨hu, hlast⟩ := begun_transactionOrStop hi s
  rw [exec_usesBus i s hu] at h
  obtain ⟨hb0, -, hrun⟩ := runCommand_cases (begun i) s t h
  obtain ⟨-, -, -, -, -, -, -, -, -, -, -, -, -, -, -, -, -, hbegun, -⟩ := begun_keeps i s hu
  have hbegin : EndsIdle (begun i s) :=
    endsIdle_of_running (sound_begun i (between_of_ready hs hb0) hu) hbegun hlast
  refine (runTurns_induct EndsIdle (fun _ => True) ?_ ?_ s.script (begun i s) t (fun _ _ => trivial) hbegin hrun).ended
    hb
  · intro u v v' _ hv hbusy hstep
    cases u with
    | engine => exact endsIdle_microStep hv hbusy hstep
    | env e =>
      obtain rfl := Host.Outcome.next.inj hstep
      exact endsIdle_envStep e hv hbusy
  · rintro l v ⟨⟨hp, hm, hc, hq, hr, hctrl, hl⟩, hrunning, hended⟩
    exact ⟨⟨hp, hm, hc, hq, hr, hctrl, hl⟩, hrunning, hended⟩

end Sys2Proof.Machine
end
